-- ==== Sys2Proof/Word.lean ====
section
/-! DEFINITION. The widths of the TSQ relay-sequencer core that the source fixes (spec 00_scope.md R6); the
widths of the millisecond values are parameters and stand in Config.lean. Nothing here computes. -/

namespace Sys2Proof

/-- One byte of the configuration image; also a dwell in ms (00_scope.md R6). -/
abbrev Byte := BitVec 8

/-- The 16-bit fields `Timeout` and `checksum` (00_scope.md R6). -/
abbrev Half := BitVec 16

end Sys2Proof
end

