-- ==== Sys2Proof/Config.lean ====
section
/-! DEFINITION. The spec's open parameters (92_eei_decisions.md, "Open parameters, collected"), each at the spec's
default, the types whose width they give, and the record types they are written in. -/

namespace Sys2Proof

/-- `CLK_W`, the width of `now_ms` (00_scope.md R7, 93_implementation_defined.md row 15). DESIGN CHOICE (log entry 4):
the spec's default, 32. The arithmetic of time takes its width as an argument and the state's registers are declared at
this one; no definition of the model has the number 32 in this sense, so a model of another clock changes this line. -/
abbrev Config.clkW : Nat := 32

/-- `ACC_W`, the width of `g_hold` and `tmr_start` (00_scope.md R8): 32 with the default `CLK_W`. DESIGN CHOICE (log
entry 4): it goes with `CLK_W`, as R7 replaces `2^32` "throughout", R8's saturation bound included. -/
abbrev Config.accW : Nat := Config.clkW

/-- A value of the millisecond clock: `now_ms` and `g_last` (00_scope.md R7). -/
abbrev Millis := BitVec Config.clkW

/-- A value of the hold-duration accumulator or of the timer's start-time register (00_scope.md R8). -/
abbrev Accum := BitVec Config.accW

/-- One physical step's configuration, decoded (30_encoding.md R92; source TSS §3 StepConfig). -/
structure StepConfig where
  /-- `RxPolarity`: true = idle contact position Closed, false = Open. -/
  rxClosed : Bool
  /-- `TxDelay`, ms. -/
  txDelay : Byte
  /-- `RxDelay`, ms. -/
  rxDelay : Byte
  deriving DecidableEq, Repr

/-- A decoded configuration: four steps and the keying fields (30_encoding.md R90, R92). The checksum is no part of
it: R95's encoder computes the checksum. -/
structure ConfigRecord where
  step0 : StepConfig
  step1 : StepConfig
  step2 : StepConfig
  step3 : StepConfig
  rtsEnable : Bool
  ctsEnable : Bool
  /-- `Timeout`, seconds; 0 = disabled. -/
  timeout : Half
  deriving DecidableEq, Repr

/-- The parameters of a 16-bit CRC (40_config_crc.md R123). -/
structure CrcParams where
  poly : Half
  init : Half
  refIn : Bool
  refOut : Bool
  xorOut : Half
  deriving DecidableEq, Repr

namespace Config

/-- CRC-16/MODBUS: the tuple of 40_config_crc.md R123 and 00_scope.md R9. -/
def modbus : CrcParams :=
  { poly := 0x8005#16, init := 0xFFFF#16, refIn := true, refOut := true, xorOut := 0x0000#16 }

/-- `CRC16_PARAMS` (00_scope.md R9). DESIGN CHOICE (log entry 5): the spec's default, CRC-16/MODBUS. -/
def crc16Params : CrcParams := modbus

/-- A step of the default configuration: Open, 50 ms, 50 ms (40_config_crc.md R126). -/
def defaultStep : StepConfig := { rxClosed := false, txDelay := 50#8, rxDelay := 50#8 }

/-- `DEFAULT_CONFIG` (00_scope.md R10, 40_config_crc.md R126). DESIGN CHOICE (log entry 6): the spec's default. -/
def defaultConfig : ConfigRecord :=
  { step0 := defaultStep, step1 := defaultStep, step2 := defaultStep, step3 := defaultStep
    rtsEnable := false, ctsEnable := true, timeout := 120#16 }

/-- `CFG_BASE`, the record's address in the host's store (20_memory.md R61): open, and "The block neither reads nor
depends on it"; so it has no value here and no definition of the model mentions it (log entry 7). -/
opaque cfgBase : Nat

end Config
end Sys2Proof
end

