-- ==== Sys2Proof/Syntax.lean ====
section
/-! DEFINITION. The syntax: the 18-byte configuration image, the input ports of one cycle, and the operations
(30_encoding.md). Nothing here computes. -/

namespace Sys2Proof

/-- The three bytes of one Step record, in the order of 30_encoding.md R90. -/
structure StepImage where
  rxPolarity : Byte
  txDelay : Byte
  rxDelay : Byte
  deriving DecidableEq, Repr

/-- The configuration image: exactly the 18 bytes of 30_encoding.md R90 (R88: "every image exactly 18 bytes"), in
offset order. Every value is a legal image: no byte value is rejected (R94). -/
structure Image where
  /-- offsets 0, 1, 2 -/
  step0 : StepImage
  /-- offsets 3, 4, 5 -/
  step1 : StepImage
  /-- offsets 6, 7, 8 -/
  step2 : StepImage
  /-- offsets 9, 10, 11 -/
  step3 : StepImage
  /-- offset 12 -/
  rtsEnable : Byte
  /-- offset 13 -/
  ctsEnable : Byte
  /-- offset 14: Timeout bits 7..0 -/
  timeoutLo : Byte
  /-- offset 15: Timeout bits 15..8 -/
  timeoutHi : Byte
  /-- offset 16: checksum bits 7..0 -/
  checksumLo : Byte
  /-- offset 17: checksum bits 15..8 -/
  checksumHi : Byte
  deriving DecidableEq, Repr

/-- The levels on the block's input ports in one `clk` cycle (10_state.md R40; `ctl` is the four control-vector ports
`{rst, tick, cfg_wr, persist_ack}`, bit 3 first, 30_encoding.md R80). `clk` itself is the step. -/
structure Ports where
  ctl : BitVec 4
  cfgIn : BitVec 144
  keyN : Bool
  rtsN : Bool
  nowMs : Millis
  deriving DecidableEq, Repr

/-- The five operations (45_operations.md R250), one constructor per row of spec/opcode_table.json. Each carries the
operands it samples from the ports, and no others (10_state.md R43). -/
inductive Instr where
  /-- RESET, `ctl = 1xxx`: the stored image on `cfg_in` and `now_ms` (45_operations.md R255). -/
  | reset (img : Image) (nowMs : Millis)
  /-- TICK, `ctl = 01xx`: the raw levels and `now_ms` (45_operations.md R251). -/
  | tick (keyN : Bool) (rtsN : Bool) (nowMs : Millis)
  /-- CFG_WRITE, `ctl = 0x1x`: the replacement image on `cfg_in` (45_operations.md R253). -/
  | cfgWrite (img : Image)
  /-- PERSIST_ACK, `ctl = 0xx1` (45_operations.md R254). -/
  | persistAck
  /-- NOP, `ctl = 0000` (45_operations.md R252). -/
  | nop
  deriving DecidableEq, Repr

end Sys2Proof
end

