-- ==== Sys2Proof/WellFormed.lean ====
section
/-! DEFINITION. Which operations may stand together in one cycle (30_encoding.md R81, R82, R100). An operation alone is
always well formed: its operands have no illegal value (R83, R94), and the type `Image` holds exactly 18 bytes. A LINE
of the stimulus notation (R100: "one or more operations") is well formed when one control vector can express it. -/

namespace Sys2Proof

/-- RESET excludes every other operation in its cycle and NOP is the cycle with no other operation
(30_encoding.md R81). -/
def Instr.standsAlone : Instr → Bool
  | .reset _ _ => true
  | .tick _ _ _ => false
  | .cfgWrite _ => false
  | .persistAck => false
  | .nop => true

/-- The place of an operation in a cycle: TICK, CFG_WRITE, PERSIST_ACK (45_operations.md R256). -/
def Instr.slot : Instr → Nat
  | .reset _ _ => 0
  | .tick _ _ _ => 1
  | .cfgWrite _ => 2
  | .persistAck => 3
  | .nop => 4

/-- Check 1: a cycle performs at least one operation (30_encoding.md R81: with no bit set it performs NOP). -/
def lineNotEmpty (l : List Instr) : Bool := !l.isEmpty

/-- Check 2: RESET and NOP have no companion in a cycle (30_encoding.md R81). That a line which names one beside another
operation is refused is DESIGN CHOICE (log entry 18): R100 does not say that such a line may not be written. -/
def lineKeepsAlone (l : List Instr) : Bool := l.length == 1 || l.all fun i => !i.standsAlone

/-- The numbers of the list rise strictly. -/
def risesStrictly : List Nat → Bool
  | [] => true
  | [_] => true
  | a :: b :: rest => decide (a < b) && risesStrictly (b :: rest)

/-- Check 3: each operation at most once, in the order of 45_operations.md R256. DESIGN CHOICE (log entry 18): R100 sets no
order for a line's operations and does not speak of repeats. A line in another order names the same control vector and
`encode` gives the same ports; of all the lines for one vector, this check keeps the one that `decode` answers. -/
def lineInOrder (l : List Instr) : Bool := risesStrictly (l.map Instr.slot)

/-- A well-formed line: the operations of one cycle, as one control vector can select them. -/
def lineWellFormed (l : List Instr) : Bool := lineNotEmpty l && lineKeepsAlone l && lineInOrder l

/-- An operation is well formed when it makes a line on its own. -/
def Instr.wellFormed (i : Instr) : Bool := lineWellFormed [i]

end Sys2Proof
end

