-- ==== Sys2Proof/Decode.lean ====
section
/-! DEFINITION. Decoding the input ports of a cycle into its operations, and encoding operations into ports
(30_encoding.md R80 to R83, R90, R100; 10_state.md R40). -/

namespace Sys2Proof

/-! ### The image on the 144-bit ports -/

/-- Byte `k` of a 144-bit image port: bits `[8k+7:8k]` (10_state.md R40). -/
def portByte (w : BitVec 144) (k : Nat) : Byte := w.extractLsb' (8 * k) 8

/-- The image on a 144-bit port, byte by byte in the layout of 30_encoding.md R90. -/
def Image.ofBits (w : BitVec 144) : Image :=
  { step0 := { rxPolarity := portByte w 0, txDelay := portByte w 1, rxDelay := portByte w 2 }
    step1 := { rxPolarity := portByte w 3, txDelay := portByte w 4, rxDelay := portByte w 5 }
    step2 := { rxPolarity := portByte w 6, txDelay := portByte w 7, rxDelay := portByte w 8 }
    step3 := { rxPolarity := portByte w 9, txDelay := portByte w 10, rxDelay := portByte w 11 }
    rtsEnable := portByte w 12
    ctsEnable := portByte w 13
    timeoutLo := portByte w 14
    timeoutHi := portByte w 15
    checksumLo := portByte w 16
    checksumHi := portByte w 17 }

/-- The bytes of a Step record in offset order (30_encoding.md R90). -/
def StepImage.bytes (r : StepImage) : List Byte := [r.rxPolarity, r.txDelay, r.rxDelay]

/-- The 18 bytes of an image, offset 0 first (30_encoding.md R90). -/
def Image.bytes (img : Image) : List Byte :=
  img.step0.bytes ++ img.step1.bytes ++ img.step2.bytes ++ img.step3.bytes ++
    [img.rtsEnable, img.ctsEnable, img.timeoutLo, img.timeoutHi, img.checksumLo, img.checksumHi]

/-- Bytes on a 144-bit port, the first at bits 7..0 (10_state.md R40). -/
def packBytes : List Byte → BitVec 144
  | [] => 0
  | b :: bs => (packBytes bs <<< 8) ||| b.setWidth 144

/-- The image on a 144-bit port: the inverse of `Image.ofBits`. -/
def Image.toBits (img : Image) : BitVec 144 := packBytes img.bytes

/-- An image from its bytes, offset 0 first; none unless there are exactly 18 (30_encoding.md R88). -/
def Image.ofBytes : List Byte → Option Image
  | [b0, b1, b2, b3, b4, b5, b6, b7, b8, b9, b10, b11, b12, b13, b14, b15, b16, b17] =>
    some { step0 := ⟨b0, b1, b2⟩, step1 := ⟨b3, b4, b5⟩, step2 := ⟨b6, b7, b8⟩, step3 := ⟨b9, b10, b11⟩
           rtsEnable := b12, ctsEnable := b13, timeoutLo := b14, timeoutHi := b15
           checksumLo := b16, checksumHi := b17 }
  | _ => none

/-! ### The control vector -/

/-- `rst`, bit 3 of the control vector (30_encoding.md R80). -/
def Ports.rst (p : Ports) : Bool := p.ctl.getLsbD 3
/-- `tick`, bit 2 (30_encoding.md R80). -/
def Ports.tick (p : Ports) : Bool := p.ctl.getLsbD 2
/-- `cfg_wr`, bit 1 (30_encoding.md R80). -/
def Ports.cfgWr (p : Ports) : Bool := p.ctl.getLsbD 1
/-- `persist_ack`, bit 0 (30_encoding.md R80). -/
def Ports.persistAck (p : Ports) : Bool := p.ctl.getLsbD 0

/-- The TICK of a cycle without RESET, if it has one. -/
def Ports.tickOps (p : Ports) : List Instr := if p.tick then [.tick p.keyN p.rtsN p.nowMs] else []
/-- The CFG_WRITE of a cycle without RESET, if it has one. -/
def Ports.cfgOps (p : Ports) : List Instr := if p.cfgWr then [.cfgWrite (Image.ofBits p.cfgIn)] else []
/-- The PERSIST_ACK of a cycle without RESET, if it has one. -/
def Ports.ackOps (p : Ports) : List Instr := if p.persistAck then [.persistAck] else []

/-- The operations a cycle performs, in the order of 45_operations.md R256: all rows of the table that the control
vector matches (30_encoding.md R81, R82). Total: no vector is illegal or reserved (R83). -/
def decode (p : Ports) : List Instr :=
  if p.rst then [.reset (Image.ofBits p.cfgIn) p.nowMs]
  else if p.ctl = 0#4 then [.nop]
  else p.tickOps ++ p.cfgOps ++ p.ackOps

/-! ### The table's numbering -/

/-- Why a number is no control vector. -/
inductive DecodeRefusal where
  /-- A bit above the four of `ctl`, or above the stated width, is set: "Every control vector is exactly 4 bits"
  (30_encoding.md R88). Raised by `decodeWord`; safe. -/
  | notAControlVector (w : Nat)
  deriving DecidableEq, Repr

/-- The ports with `w` on the four control wires and zeros on every operand port (log entry 2). -/
def Ports.ofTableWord (w : Nat) : Ports :=
  { ctl := BitVec.ofNat 4 w, cfgIn := 0, keyN := false, rtsN := false, nowMs := 0 }

/-- The operations of the cycle whose control vector is the number `w` of `nbits` bits, its operand ports at zero. -/
def decodeWord (nbits w : Nat) : Except DecodeRefusal (List Instr) :=
  if w < 2 ^ min nbits 4 then .ok (decode (Ports.ofTableWord w)) else .error (.notAControlVector w)

/-- The first operation of that cycle: the only one, where `w` is the match word of a row. -/
def decodeTableWord (nbits w : Nat) : Option Instr :=
  match decodeWord nbits w with
  | .ok ops => ops.head?
  | .error _ => none

/-! ### The encoder -/

/-- Every port at zero. -/
def Ports.zero : Ports := { ctl := 0, cfgIn := 0, keyN := false, rtsN := false, nowMs := 0 }

/-- The ports that select one operation and carry its operands; the ports it does not read are zero
(30_encoding.md R82, R100). -/
def encodeOp : Instr → Ports
  | .reset img now => { Ports.zero with ctl := 0b1000#4, cfgIn := img.toBits, nowMs := now }
  | .tick k r now => { Ports.zero with ctl := 0b0100#4, keyN := k, rtsN := r, nowMs := now }
  | .cfgWrite img => { Ports.zero with ctl := 0b0010#4, cfgIn := img.toBits }
  | .persistAck => { Ports.zero with ctl := 0b0001#4 }
  | .nop => Ports.zero

/-- Two port samples in one cycle: "The line's control vector is the OR of the bits its operations name"
(30_encoding.md R100); no two operations of a well-formed line read the same operand port. -/
def Ports.merge (p q : Ports) : Ports :=
  { ctl := p.ctl ||| q.ctl, cfgIn := p.cfgIn ||| q.cfgIn, keyN := p.keyN || q.keyN
    rtsN := p.rtsN || q.rtsN, nowMs := p.nowMs ||| q.nowMs }

/-- The ports of a line: its operations in one cycle (30_encoding.md R100). -/
def encode : List Instr → Ports
  | [] => Ports.zero
  | i :: is => (encodeOp i).merge (encode is)

/-- The mask of an operation's row in the table (30_encoding.md R82). -/
def rowMask : Instr → BitVec 4
  | .reset _ _ => 0b1000#4
  | .tick _ _ _ => 0b1100#4
  | .cfgWrite _ => 0b1010#4
  | .persistAck => 0b1001#4
  | .nop => 0b1111#4

/-- The match value of an operation's row in the table (30_encoding.md R82). -/
def rowMatch : Instr → BitVec 4
  | .reset _ _ => 0b1000#4
  | .tick _ _ _ => 0b0100#4
  | .cfgWrite _ => 0b0010#4
  | .persistAck => 0b0001#4
  | .nop => 0b0000#4

end Sys2Proof
end

