-- ==== Sys2Proof/Machine/Crc.lean ====
section
/-! DEFINITION. The CRC-16 of the configuration image (40_config_crc.md R122, R123). -/

namespace Sys2Proof.Machine

/-- `f` applied `n` times. -/
def applyN {α : Type} : Nat → (α → α) → α → α
  | 0, _, a => a
  | n + 1, f, a => applyN n f (f a)

/-- One bit of R122's inner loop; 0xA001 is the bit-reverse of 0x8005. -/
def crcBitReflected (c : Half) : Half :=
  if c.getLsbD 0 then (c >>> 1) ^^^ 0xA001#16 else c >>> 1

/-- One byte of R122's loop. -/
def crcByteReflected (c : Half) (b : Byte) : Half :=
  applyN 8 crcBitReflected (c ^^^ b.setWidth 16)

/-- `CRC16` with the default parameters, CRC-16/MODBUS (40_config_crc.md R122). -/
def crc16Modbus (bs : List Byte) : Half := bs.foldl crcByteReflected 0xFFFF#16 ^^^ 0x0000#16

/-- One bit of R123's inner loop. -/
def crcBitGeneric (poly c : Half) : Half :=
  if c.getLsbD 15 then (c <<< 1) ^^^ poly else c <<< 1

/-- A byte as it enters the generic loop (40_config_crc.md R123). -/
def crcByteIn (p : CrcParams) (b : Byte) : Byte := if p.refIn then b.reverse else b

/-- One byte of R123's loop. -/
def crcByteGeneric (p : CrcParams) (c : Half) (b : Byte) : Half :=
  applyN 8 (crcBitGeneric p.poly) (c ^^^ ((crcByteIn p b).setWidth 16 <<< 8))

/-- `CRC16_generic` (40_config_crc.md R123). -/
def crc16Generic (p : CrcParams) (bs : List Byte) : Half :=
  let c := bs.foldl (crcByteGeneric p) p.init
  (if p.refOut then c.reverse else c) ^^^ p.xorOut

/-- The CRC the block computes: the generic rule at `CRC16_PARAMS` (00_scope.md R9, 40_config_crc.md R123). With the
default parameters it is `crc16Modbus` (R123's second sentence, an obligation). -/
def crc16 (bs : List Byte) : Half := crc16Generic Config.crc16Params bs

end Sys2Proof.Machine
end

