-- ==== Sys2Proof/Machine/Image.lean ====
section
/-! DEFINITION. The configuration image: its bytes, its decoded fields, its validity and the default image
(20_memory.md R62, R63; 30_encoding.md R90 to R95; 40_config_crc.md R120, R121, R126). -/

namespace Sys2Proof

/-- A 2-byte field, little-endian: `img[a] | (img[a+1] << 8)` (20_memory.md R63). -/
def littleEndian (lo hi : Byte) : Half := lo.setWidth 16 ||| (hi.setWidth 16 <<< 8)

/-- `MemRead(a, n)`: the bytes `a .. a+n-1` of an image; none where the range leaves the record (20_memory.md R62). -/
def Image.memRead (img : Image) (a n : Nat) : Option (List Byte) :=
  if a + n ≤ 18 then some ((img.bytes.drop a).take n) else none

/-- The Step record of step index `i` (00_scope.md R15: step number `n` has index `n - 1`). -/
def Image.step (img : Image) (i : Fin 4) : StepImage :=
  match i with
  | 0 => img.step0
  | 1 => img.step1
  | 2 => img.step2
  | 3 => img.step3

/-- `pol(img, i)`: true = idle position Closed (30_encoding.md R92). -/
def Image.pol (img : Image) (i : Fin 4) : Bool := (img.step i).rxPolarity != 0x00#8
/-- `txd(img, i)`, ms (30_encoding.md R92). -/
def Image.txd (img : Image) (i : Fin 4) : Byte := (img.step i).txDelay
/-- `rxd(img, i)`, ms (30_encoding.md R92). -/
def Image.rxd (img : Image) (i : Fin 4) : Byte := (img.step i).rxDelay
/-- `rts_en(img)` (30_encoding.md R92). -/
def Image.rtsEn (img : Image) : Bool := img.rtsEnable != 0x00#8
/-- `cts_en(img)` (30_encoding.md R92). -/
def Image.ctsEn (img : Image) : Bool := img.ctsEnable != 0x00#8
/-- `tmo(img)`, seconds (30_encoding.md R92). -/
def Image.tmo (img : Image) : Half := littleEndian img.timeoutLo img.timeoutHi
/-- `ck(img)` (30_encoding.md R92). -/
def Image.ck (img : Image) : Half := littleEndian img.checksumLo img.checksumHi

/-- `tmo_ms = zext_32(tmo) * 1000` (30_encoding.md R93): the product is below 2^26, so its 32 bits, which are R93's and
not `CLK_W`, hold it whatever the clock's width. -/
def Image.tmoMs (img : Image) : BitVec 32 := img.tmo.setWidth 32 * 1000#32

/-- The idle positions `pol[3:0]` as a relay word (10_state.md R20, 70_reset_and_hazards.md R320). -/
def Image.idleRelays (img : Image) : BitVec 4 :=
  BitVec.ofBool (img.pol 3) ++ BitVec.ofBool (img.pol 2) ++ BitVec.ofBool (img.pol 1) ++ BitVec.ofBool (img.pol 0)

/-- The bytes the checksum covers: 0..15 in offset order (30_encoding.md R91). -/
def Image.covered (img : Image) : List Byte := img.bytes.take 16

/-- `Valid(img)` (40_config_crc.md R121). -/
def Image.valid (img : Image) : Bool := Machine.crc16 img.covered == img.ck

/-- The canonical byte of Open/Closed and of false/true (30_encoding.md R95). -/
def flagByte (b : Bool) : Byte := if b then 0x01#8 else 0x00#8

/-- The bytes of a step's configuration (30_encoding.md R95). -/
def encodeStep (c : StepConfig) : StepImage :=
  { rxPolarity := flagByte c.rxClosed, txDelay := c.txDelay, rxDelay := c.rxDelay }

/-- An image of a configuration, its two checksum bytes still zero. -/
def encodeFields (cfg : ConfigRecord) : Image :=
  { step0 := encodeStep cfg.step0, step1 := encodeStep cfg.step1
    step2 := encodeStep cfg.step2, step3 := encodeStep cfg.step3
    rtsEnable := flagByte cfg.rtsEnable, ctsEnable := flagByte cfg.ctsEnable
    timeoutLo := cfg.timeout.setWidth 8, timeoutHi := (cfg.timeout >>> 8).setWidth 8
    checksumLo := 0, checksumHi := 0 }

/-- An image with its checksum recomputed (30_encoding.md R95; 40_config_crc.md R129's duty of the editor). -/
def Image.withChecksum (img : Image) : Image :=
  let c := Machine.crc16 img.covered
  { img with checksumLo := c.setWidth 8, checksumHi := (c >>> 8).setWidth 8 }

/-- `encode(cfg)` (30_encoding.md R95). -/
def encodeConfig (cfg : ConfigRecord) : Image := (encodeFields cfg).withChecksum

/-- A step's decoded configuration (30_encoding.md R92). -/
def StepImage.decode (r : StepImage) : StepConfig :=
  { rxClosed := r.rxPolarity != 0x00#8, txDelay := r.txDelay, rxDelay := r.rxDelay }

/-- The decoded configuration of an image (30_encoding.md R92). -/
def Image.decodeConfig (img : Image) : ConfigRecord :=
  { step0 := img.step0.decode, step1 := img.step1.decode, step2 := img.step2.decode, step3 := img.step3.decode
    rtsEnable := img.rtsEn, ctsEnable := img.ctsEn, timeout := img.tmo }

namespace Machine

/-- `DEFAULT_IMG = encode(DEFAULT_CONFIG)` (40_config_crc.md R126). -/
def defaultImage : Image := encodeConfig Config.defaultConfig

end Machine
end Sys2Proof
end

