-- ==== Sys2Proof/Machine/State.lean ====
section
/-! DEFINITION. The state of the block (10_state.md R20), the reasons a step could stop, and the state after reset
(70_reset_and_hazards.md R320). -/

namespace Sys2Proof.Machine

/-- The sequencer state, in the tagged form of 30_encoding.md R86; the step carries its 0-based index (00_scope.md
R15). The 16 values stand for the 16 codes of the 4-bit register `seq` (`Seq.code`; log entry 9). -/
inductive Seq where
  /-- Rx, code 0. -/
  | rx
  /-- S_nT with n = i + 1, codes 1 to 4. -/
  | txStep (i : Fin 4)
  /-- Tx, code 5. -/
  | tx
  /-- S_nR with n = i + 1, codes 10 - n: 9 down to 6. -/
  | rxStep (i : Fin 4)
  /-- The unused codes 10 + c (30_encoding.md R87). -/
  | unused (c : Fin 6)
  deriving DecidableEq, Repr

/-- Why a step would stop with a fault: it never does. "The block has no fault outcome, no refusal outcome and no
stuck outcome" (45_operations.md R257; 60_exceptions.md R280). No constructor, so no definition raises one; safe. -/
inductive Fault where
  deriving DecidableEq, Repr

/-- Why a step would refuse: the block never does (45_operations.md R257). -/
inductive Refusal where
  /-- An instruction with no meaning yet, by its mnemonic. Raised only by a refused arm of `exec`; there is none, so
  nothing raises it; safe. -/
  | notModelled (mnemonic : String)
  deriving DecidableEq, Repr

/-- The registers of 10_state.md R20 ("exactly the registers in this table"), and the model's two fields for the
host's side of the input ports (log entry 1). -/
structure State where
  /-- `seq`, 4 bits. -/
  seq : Seq
  /-- `tmr_start`, `ACC_W` (32) bits. -/
  tmrStart : Accum
  /-- `tmr_delay`, 8 bits. -/
  tmrDelay : Byte
  /-- `g_hold`, `ACC_W` (32) bits. -/
  gHold : Accum
  /-- `g_last`, `CLK_W` (32) bits. -/
  gLast : Millis
  /-- `g_flag`. -/
  gFlag : Bool
  /-- `relay[3:0]`: bit i = 1 commands relay i Closed. -/
  relay : BitVec 4
  /-- `cts`. -/
  cts : Bool
  /-- `cfg_img`, 18 bytes. -/
  cfgImg : Image
  /-- `persist_req`. -/
  persistReq : Bool
  /-- `cfg_defaulted`. -/
  cfgDefaulted : Bool
  /-- `cfg_rejected`. -/
  cfgRejected : Bool
  /-- `obs_combined`. -/
  obsCombined : Bool
  /-- `obs_key`. -/
  obsKey : Bool
  /-- The model's own: the levels on the input ports in the coming cycle. -/
  ports : Ports
  /-- The model's own: the samples the host drives in the cycles after that, the next one first. -/
  upcoming : List Ports
  deriving DecidableEq, Repr

/-- Input ports at rest: no operation selected, both raw lines released (high), zeros elsewhere. -/
def idlePorts : Ports := { ctl := 0, cfgIn := 0, keyN := true, rtsN := true, nowMs := 0 }

/-- The block right after a RESET that found the default image in the store at `now_ms = 0` (70_reset_and_hazards.md
R320 with `cfg_in = DEFAULT_IMG`). DESIGN CHOICE (log entry 3): which image and which time the RESET sampled.
DESIGN CHOICE (log entry 1): the input ports at rest and nothing scheduled. -/
def State.reset : State :=
  { seq := .rx
    tmrStart := 0
    tmrDelay := 0
    gHold := 0
    gLast := 0
    gFlag := false
    relay := defaultImage.idleRelays
    cts := false
    cfgImg := defaultImage
    persistReq := false
    cfgDefaulted := false
    cfgRejected := false
    obsCombined := false
    obsKey := false
    ports := idlePorts
    upcoming := [] }

end Sys2Proof.Machine
end

