-- ==== Sys2Proof/Machine/SeqCode.lean ====
section
/-! DEFINITION. The 4-bit codes of the sequencer state (30_encoding.md R84, R86, R87). -/

namespace Sys2Proof.Machine

/-- The 4-bit code of a sequencer state: `n` for S_nT, `10 - n` for S_nR (30_encoding.md R84, R86). -/
def Seq.code : Seq → BitVec 4
  | .rx => 0
  | .txStep i => BitVec.ofNat 4 (i.val + 1)
  | .tx => 5
  | .rxStep i => BitVec.ofNat 4 (9 - i.val)
  | .unused c => BitVec.ofNat 4 (10 + c.val)

/-- The sequencer state of a code (30_encoding.md R84); the last line is code 15. -/
def Seq.ofCode (w : BitVec 4) : Seq :=
  match w.toNat with
  | 0 => .rx
  | 1 => .txStep 0
  | 2 => .txStep 1
  | 3 => .txStep 2
  | 4 => .txStep 3
  | 5 => .tx
  | 6 => .rxStep 3
  | 7 => .rxStep 2
  | 8 => .rxStep 1
  | 9 => .rxStep 0
  | 10 => .unused 0
  | 11 => .unused 1
  | 12 => .unused 2
  | 13 => .unused 3
  | 14 => .unused 4
  | _ => .unused 5

/-- The eight transitional states S1T..S4T and S4R..S1R (00_scope.md R16). -/
def Seq.transitional : Seq → Bool
  | .rx => false
  | .txStep _ => true
  | .tx => false
  | .rxStep _ => true
  | .unused _ => false

/-- One of the ten named states, codes 0..9 (30_encoding.md R84). -/
def Seq.named : Seq → Bool
  | .rx => true
  | .txStep _ => true
  | .tx => true
  | .rxStep _ => true
  | .unused _ => false

end Sys2Proof.Machine
end

