-- ==== Sys2Proof/Machine/Operands.lean ====
section
/-! DEFINITION. What an operation computes its results from: the active configuration's fields, the keying input
combiner (42_combiner.md) and the arithmetic of time (00_scope.md R12, 41_step_timer.md R152). -/

namespace Sys2Proof.Machine

/-! ### Arithmetic of time (00_scope.md R12), at any width `w`: R7 replaces `2^32` by `2^CLK_W` throughout -/

/-- `a -% b`: subtraction modulo `2^w`. -/
def timeDiff {w : Nat} (a b : BitVec w) : BitVec w := a - b

/-- R12's `sat32(x)` at width `w`: `min(x, 2^w - 1)`. -/
def saturate (w x : Nat) : BitVec w := BitVec.ofNat w (min x (2 ^ w - 1))

/-! ### The keying input combiner (42_combiner.md) -/

/-- `positive_key = NOT key_n` (R171). -/
def positiveKey (keyN : Bool) : Bool := !keyN

/-- `positive_rts = rts_en AND (NOT rts_n)` (R172). -/
def positiveRts (rtsEn rtsN : Bool) : Bool := rtsEn && !rtsN

/-- `combined = positive_key OR positive_rts` under the active configuration (R173). -/
def State.combined (s : State) (keyN rtsN : Bool) : Bool :=
  positiveKey keyN || positiveRts s.cfgImg.rtsEn rtsN

/-- `key = combined AND NOT flag_next` (R174). -/
def gatedKey (combined flagNext : Bool) : Bool := combined && !flagNext

/-! ### The step timer's comparison (41_step_timer.md R152) -/

/-- `Elapsed(now_ms) = now_ms -% tmr_start`. -/
def State.elapsed (s : State) (now : Millis) : Millis := timeDiff now s.tmrStart

/-- `Expired(now_ms) = Elapsed(now_ms) >= zext_32(tmr_delay)`, unsigned: compared as numbers, so at any `CLK_W`. -/
def State.expired (s : State) (now : Millis) : Bool := decide (s.tmrDelay.toNat ≤ (s.elapsed now).toNat)

end Sys2Proof.Machine
end

