-- ==== Sys2Proof/Machine/Flags.lean ====
section
/-! DEFINITION. The transmit timeout guard (43_timeout_guard.md R190 to R199): the new hold-duration and the new
timeout flag of a TICK. The flag is the block's one trap-like event: `guardFlagNext` is its entry and its end
(60_exceptions.md R284, R285). -/

namespace Sys2Proof.Machine

/-- `delta = now_ms -% g_last` (R191). -/
def State.guardDelta (s : State) (now : Millis) : Millis := timeDiff now s.gLast

/-- `hold_next` (R192, R193): the sum is formed without overflow and saturates. -/
def State.guardHoldNext (s : State) (combined : Bool) (now : Millis) : Accum :=
  if combined then saturate Config.accW (s.gHold.toNat + (s.guardDelta now).toNat) else 0

/-- `flag_next` (R190): inert with `tmo = 0` (R194), clear when released (R192), else sticky (R197) or set when the
hold exceeds the Timeout (R193, strictly). -/
def State.guardFlagNext (s : State) (combined : Bool) (now : Millis) : Bool :=
  if s.cfgImg.tmo = 0 then false
  else if combined = false then false
  else s.gFlag || decide (s.cfgImg.tmoMs.toNat < (s.guardHoldNext combined now).toNat)

end Sys2Proof.Machine
end

