-- ==== Sys2Proof/Machine/Ops.lean ====
section
/-! DEFINITION. The named operations on registers that the meanings share. The block has no addressed memory
(20_memory.md R64) and takes no exception (60_exceptions.md R280), so there is no operation for either. -/

namespace Sys2Proof.Machine

/-! ### Relay latches (10_state.md R24) -/

/-- The relay word with bit `i` set to `b`. -/
def setRelayBit (w : BitVec 4) (i : Fin 4) (b : Bool) : BitVec 4 :=
  if b then w ||| (1#4 <<< i.val) else w &&& ~~~(1#4 <<< i.val)

/-- `relay[i] <- b`. -/
def State.driveRelay (s : State) (i : Fin 4) (b : Bool) : State :=
  { s with relay := setRelayBit s.relay i b }

/-! ### Step timer (41_step_timer.md R151) -/

/-- `Arm(d)` at `now_ms`. -/
def State.arm (s : State) (d : Byte) (now : Millis) : State := { s with tmrStart := now, tmrDelay := d }

/-! ### Entry actions of the sequencer (44_sequencer.md) -/

/-- `EnterT(n)` with `n = i + 1` (R215). -/
def State.enterT (s : State) (i : Fin 4) (now : Millis) : State :=
  { (s.driveRelay i (!s.cfgImg.pol i)).arm (s.cfgImg.txd i) now with seq := .txStep i }

/-- `EnterR(n)` with `n = i + 1`: no relay is written (R219). -/
def State.enterR (s : State) (i : Fin 4) (now : Millis) : State :=
  { s.arm (s.cfgImg.rxd i) now with seq := .rxStep i }

/-- `EnterTx()`: CTS is asserted only when enabled, and otherwise not written (R218). -/
def State.enterTx (s : State) : State := { s with seq := .tx, cts := if s.cfgImg.ctsEn then true else s.cts }

/-- Rx with `key = 0`: all four relays re-driven to idle, CTS held deasserted (R212). -/
def State.redriveIdle (s : State) : State := { s with relay := s.cfgImg.idleRelays, cts := false }

/-- The state after an expired S_nT with `key = 1`, `n = i + 1` (R213). -/
def State.advance (s : State) (i : Fin 4) (now : Millis) : State :=
  match i with
  | 0 => s.enterT 1 now
  | 1 => s.enterT 2 now
  | 2 => s.enterT 3 now
  | 3 => s.enterTx

/-- The next state toward receive after S_nR, `n = i + 1` (R223). -/
def State.enterNextR (s : State) (i : Fin 4) (now : Millis) : State :=
  match i with
  | 0 => { s with seq := .rx }
  | 1 => s.enterR 0 now
  | 2 => s.enterR 1 now
  | 3 => s.enterR 2 now

/-- An expired S_nR with `key = 0`: relay `n - 1` is released to idle, then the next state is entered (R220, R223). -/
def State.release (s : State) (i : Fin 4) (now : Millis) : State :=
  (s.driveRelay i (s.cfgImg.pol i)).enterNextR i now

/-! ### Guard and observation registers (43_timeout_guard.md R195, 42_combiner.md R175) -/

/-- The registers every TICK writes besides the sequencer's. -/
def State.writeGuard (s : State) (combined : Bool) (now : Millis) : State :=
  { s with gHold := s.guardHoldNext combined now, gFlag := s.guardFlagNext combined now, gLast := now
           obsCombined := combined, obsKey := gatedKey combined (s.guardFlagNext combined now) }

/-! ### Configuration (40_config_crc.md) -/

/-- `LoadAtReset(img_in)`: the image to use, and whether defaults were substituted (R127). -/
def loadAtReset (img : Image) : Image × Bool := if img.valid then (img, false) else (defaultImage, true)

/-- `ReplaceConfig(img_in)` (R130). -/
def State.replaceConfig (s : State) (img : Image) : State :=
  if img.valid then { s with cfgImg := img, cfgRejected := false } else { s with cfgRejected := true }

/-- `Reset(cfg_in, now_ms)`: every register (70_reset_and_hazards.md R320). -/
def State.resetRegisters (s : State) (img : Image) (now : Millis) : State :=
  { seq := .rx
    tmrStart := 0
    tmrDelay := 0
    gHold := 0
    gLast := now
    gFlag := false
    relay := (loadAtReset img).1.idleRelays
    cts := false
    cfgImg := (loadAtReset img).1
    persistReq := (loadAtReset img).2
    cfgDefaulted := (loadAtReset img).2
    cfgRejected := false
    obsCombined := false
    obsKey := false
    ports := s.ports
    upcoming := s.upcoming }

/-! ### The host's side of the input ports (log entry 1) -/

/-- The cycle is over: the next scheduled sample is on the ports; with none scheduled the levels stay. -/
def State.nextPorts (s : State) : State :=
  match s.upcoming with
  | [] => s
  | p :: rest => { s with ports := p, upcoming := rest }

end Sys2Proof.Machine
end

