-- ==== Sys2Proof/Machine/ConfigOps.lean ====
section
/-! DEFINITION. The meanings of CFG_WRITE and PERSIST_ACK (45_operations.md R253, R254). -/

namespace Sys2Proof.Machine

/-- CFG_WRITE: `ReplaceConfig(cfg_in)` (R253). -/
def execCfgWrite (img : Image) (s : State) : Host.Outcome State Fault Refusal :=
  .next (s.replaceConfig img)

/-- PERSIST_ACK: `persist_req <- 0` (R254). -/
def execPersistAck (s : State) : Host.Outcome State Fault Refusal :=
  .next { s with persistReq := false }

end Sys2Proof.Machine
end

