-- ==== Sys2Proof/Machine/Control.lean ====
section
/-! DEFINITION. The meanings of RESET and NOP (45_operations.md R252, R255). -/

namespace Sys2Proof.Machine

/-- RESET (45_operations.md R255, 70_reset_and_hazards.md R320). -/
def execReset (img : Image) (now : Millis) (s : State) : Host.Outcome State Fault Refusal :=
  .next (s.resetRegisters img now)

/-- NOP: no register is written (45_operations.md R252). -/
def execNop (s : State) : Host.Outcome State Fault Refusal := .next s

end Sys2Proof.Machine
end

