-- ==== Sys2Proof/Machine/Sequencer.lean ====
section
/-! DEFINITION. The sequencer step of a TICK (44_sequencer.md R210, R211). -/

namespace Sys2Proof.Machine

/-- A TICK in S_nT, `n = i + 1`: a lost key reverses before the timer counts (R213, R216, R222, R225). -/
def State.seqTxStep (s : State) (i : Fin 4) (key : Bool) (now : Millis) : State :=
  if key = false then s.enterR i now
  else if s.expired now then s.advance i now
  else s

/-- A TICK in Tx (R217). -/
def State.seqTx (s : State) (key : Bool) (now : Millis) : State :=
  if key = false then ({ s with cts := false } : State).enterR 3 now else s

/-- A TICK in S_nR, `n = i + 1`: a regained key reverses before the timer counts (R220, R221, R222, R225). -/
def State.seqRxStep (s : State) (i : Fin 4) (key : Bool) (now : Millis) : State :=
  if key = true then s.enterT i now
  else if s.expired now then s.release i now
  else s

/-- A TICK in Rx (R212, R214). -/
def State.seqRx (s : State) (key : Bool) (now : Millis) : State :=
  if key = false then s.redriveIdle else s.enterT 0 now

/-- `Seq(key, now_ms)` (R211); an unused code writes nothing (R224). -/
def State.sequence (s : State) (key : Bool) (now : Millis) : State :=
  match s.seq with
  | .rx => s.seqRx key now
  | .txStep i => s.seqTxStep i key now
  | .tx => s.seqTx key now
  | .rxStep i => s.seqRxStep i key now
  | .unused _ => s

end Sys2Proof.Machine
end

