-- ==== Sys2Proof/Machine/Tick.lean ====
section
/-! DEFINITION. The meaning of TICK (45_operations.md R251). -/

namespace Sys2Proof.Machine

/-- TICK: combiner, guard, gate, observation registers, sequencer, in that order; the sequencer acts on the key that
the guard's NEW flag gates (43_timeout_guard.md R196). -/
def execTick (keyN rtsN : Bool) (now : Millis) (s : State) : Host.Outcome State Fault Refusal :=
  let combined := s.combined keyN rtsN
  let flagNext := s.guardFlagNext combined now
  let key := gatedKey combined flagNext
  .next ((s.writeGuard combined now).sequence key now)

end Sys2Proof.Machine
end

