-- ==== Sys2Proof/Machine/Dispatch.lean ====
section
/-! DEFINITION. The dispatch: one arm per operation, each the meaning of its own (45_operations.md R250). -/

namespace Sys2Proof.Machine

def exec (i : Instr) (s : State) : Host.Outcome State Fault Refusal :=
  match i with
  | .reset img now => Sys2Proof.Machine.execReset img now s
  | .tick keyN rtsN now => Sys2Proof.Machine.execTick keyN rtsN now s
  | .cfgWrite img => Sys2Proof.Machine.execCfgWrite img s
  | .persistAck => Sys2Proof.Machine.execPersistAck s
  | .nop => Sys2Proof.Machine.execNop s

end Sys2Proof.Machine
end

