-- ==== Sys2Proof/Machine/Cycle.lean ====
section
/-! DEFINITION. One `clk` cycle: the operations its control vector selects (30_encoding.md R81, 45_operations.md
R256, R257). -/

namespace Sys2Proof.Machine

/-- Operations one after another; a stop of one stops the rest. In a cycle the order is TICK, CFG_WRITE, PERSIST_ACK,
which gives "the same result" as all at once (45_operations.md R256; log entry 8, and an obligation). -/
def performAll : List Instr → State → Host.Outcome State Fault Refusal
  | [], s => .next s
  | i :: rest, s =>
    match exec i s with
    | .next t => performAll rest t
    | .fault r => .fault r
    | .refused r => .refused r

/-- One cycle: the operations the ports select, and then the next sample on the ports. -/
def cycle (s : State) : Host.Outcome State Fault Refusal :=
  match performAll (decode s.ports) s with
  | .next t => .next t.nextPorts
  | .fault r => .fault r
  | .refused r => .refused r

end Sys2Proof.Machine
end

