-- ==== Sys2Proof/Machine/Step.lean ====
section
/-! DEFINITION. The step of the machine, and how the host's probe puts an operation on the ports. -/

namespace Sys2Proof.Machine

/-- One step is one `clk` cycle (00_scope.md R2, 45_operations.md R257). -/
def step (s : State) : Host.Outcome State Fault Refusal := cycle s

/-- The block fetches nothing (10_state.md R29): its next operation is what the ports select. So the operation `w` is
put on the control wires of the coming cycle, with its operand ports at zero (log entry 2). -/
def State.withFetchWord (s : State) (nbits w : Nat) : State :=
  { s with ports := Ports.ofTableWord (w % 2 ^ nbits) }

end Sys2Proof.Machine
end

