-- ==== Sys2Proof/Machine/Outputs.lean ====
section
/-! DEFINITION. The output ports (10_state.md R40, R41). -/

namespace Sys2Proof.Machine

/-- The levels on the output ports (10_state.md R40). -/
structure Outputs where
  relay : BitVec 4
  cts : Bool
  persistReq : Bool
  persistImg : BitVec 144
  cfgInValid : Bool
  state : BitVec 4
  timeoutFlag : Bool
  cfgDefaulted : Bool
  cfgRejected : Bool
  keyObs : Bool
  combinedObs : Bool
  deriving DecidableEq, Repr

/-- The output ports: each the value of a register, but for `cfg_in_valid`, a function of `cfg_in` alone (R41). -/
def State.outputs (s : State) : Outputs :=
  { relay := s.relay
    cts := s.cts
    persistReq := s.persistReq
    persistImg := s.cfgImg.toBits
    cfgInValid := (Image.ofBits s.ports.cfgIn).valid
    state := s.seq.code
    timeoutFlag := s.gFlag
    cfgDefaulted := s.cfgDefaulted
    cfgRejected := s.cfgRejected
    keyObs := s.obsKey
    combinedObs := s.obsCombined }

end Sys2Proof.Machine
end

