-- ==== Sys2Proof/Safety.lean ====
section
/-! DEFINITION. What the claims say of the machine: its invariants, its transition graph, a second reading of one cycle
(all registers committed together) and runs under a given stimulus. No meaning uses this file. -/

namespace Sys2Proof.Machine

/-! ### Runs -/

/-- The host drives the samples one `clk` cycle each; the run of those steps (30_encoding.md R100: "One line is one
`clk` cycle"). -/
def drive : List Ports → State → Host.Outcome State Fault Refusal
  | [], s => .next s
  | p :: rest, s =>
    match step { s with ports := p, upcoming := [] } with
    | .next t => drive rest t
    | .fault r => .fault r
    | .refused r => .refused r

/-- The sample of a cycle that performs one TICK and nothing else, at the true time `t` ms (30_encoding.md R100;
`now_ms = t mod 2^CLK_W`, 70_reset_and_hazards.md R331). -/
def tickAt (keyN rtsN : Bool) (t : Nat) : Ports :=
  { ctl := 0b0100#4, cfgIn := 0, keyN := keyN, rtsN := rtsN, nowMs := BitVec.ofNat Config.clkW t }

/-- The cycle performs a TICK: `ctl = 01xx` (30_encoding.md R81, R82). -/
def performsTick (p : Ports) : Bool := !p.rst && p.tick

/-- The cycle performs neither RESET nor CFG_WRITE. -/
def keepsConfig (p : Ports) : Prop := p.rst = false ∧ p.cfgWr = false

/-- True times in order, each gap below 2^CLK_W ms (70_reset_and_hazards.md R331 (a), (b)). -/
def timesAdvance : List Nat → Prop
  | [] => True
  | [_] => True
  | a :: b :: rest => a ≤ b ∧ b - a < 2 ^ Config.clkW ∧ timesAdvance (b :: rest)

/-! ### One cycle, all registers committed together (00_scope.md R13, 45_operations.md R257) -/

/-- The registers after a cycle with the samples `p`, every one computed from the registers at the cycle's start: the
registers that TICK, CFG_WRITE and PERSIST_ACK write are those of 45_operations.md R256. -/
def State.commitTogether (s : State) (p : Ports) : State :=
  if p.rst then s.resetRegisters (Image.ofBits p.cfgIn) p.nowMs
  else
    let combined := s.combined p.keyN p.rtsN
    let flagNext := s.guardFlagNext combined p.nowMs
    let key := combined && !flagNext
    let q := if p.tick then s.sequence key p.nowMs else s
    let accepted := p.cfgWr && (Image.ofBits p.cfgIn).valid
    { s with
      seq := q.seq
      tmrStart := q.tmrStart
      tmrDelay := q.tmrDelay
      relay := q.relay
      cts := q.cts
      gHold := if p.tick then s.guardHoldNext combined p.nowMs else s.gHold
      gFlag := if p.tick then flagNext else s.gFlag
      gLast := if p.tick then p.nowMs else s.gLast
      obsCombined := if p.tick then combined else s.obsCombined
      obsKey := if p.tick then key else s.obsKey
      cfgImg := if accepted then Image.ofBits p.cfgIn else s.cfgImg
      cfgRejected := if p.cfgWr then !(Image.ofBits p.cfgIn).valid else s.cfgRejected
      persistReq := s.persistReq && !p.persistAck }

/-! ### The transition graph (44_sequencer.md R210) -/

/-- The edges of R210: from a state, with a level of `key` and of `Expired`, to a state. -/
inductive Edge : Seq → Bool → Bool → Seq → Prop where
  | keyed (e : Bool) : Edge .rx true e (.txStep 0)
  | forward (i : Fin 4) (j : Fin 4) (h : j.val = i.val + 1) : Edge (.txStep i) true true (.txStep j)
  | transmit : Edge (.txStep 3) true true .tx
  | reverse (i : Fin 4) (e : Bool) : Edge (.txStep i) false e (.rxStep i)
  | unkeyed (e : Bool) : Edge .tx false e (.rxStep 3)
  | back (i : Fin 4) (j : Fin 4) (h : i.val = j.val + 1) : Edge (.rxStep i) false true (.rxStep j)
  | idle : Edge (.rxStep 0) false true .rx
  | rekeyed (i : Fin 4) (e : Bool) : Edge (.rxStep i) true e (.txStep i)

/-! ### Invariants -/

/-- Relays of step index below `m` are transmit-active, the others idle. -/
def State.relaysActiveBelow (s : State) (m : Nat) : Prop :=
  ∀ i : Fin 4, s.relay.getLsbD i.val = if i.val < m then !s.cfgImg.pol i else s.cfgImg.pol i

/-- The output invariants of 44_sequencer.md R226, with `n = i + 1`; an unused code has none. -/
def State.outputsFollow (s : State) : Prop :=
  match s.seq with
  | .rx => s.relaysActiveBelow 0 ∧ s.cts = false
  | .txStep i => s.relaysActiveBelow (i.val + 1) ∧ s.cts = false
  | .tx => s.relaysActiveBelow 4 ∧ s.cts = s.cfgImg.ctsEn
  | .rxStep i => s.relaysActiveBelow (i.val + 1) ∧ s.cts = false
  | .unused _ => False

/-- R226's condition on one cycle: no CFG_WRITE changes `pol` or `cts_en`. -/
def State.outputFieldsKept (s : State) (p : Ports) : Prop :=
  p.rst = false → p.cfgWr = true → (Image.ofBits p.cfgIn).valid = true →
    (∀ i : Fin 4, (Image.ofBits p.cfgIn).pol i = s.cfgImg.pol i) ∧
      (Image.ofBits p.cfgIn).ctsEn = s.cfgImg.ctsEn

/-- The active configuration is valid (10_state.md R27, 40_config_crc.md R132). -/
def State.configValid (s : State) : Prop := s.cfgImg.valid = true

/-- The observation registers agree with the guard's (42_combiner.md R174 to R176, 43_timeout_guard.md R192). -/
def State.observationAgrees (s : State) : Prop :=
  s.obsKey = (s.obsCombined && !s.gFlag) ∧ (s.obsCombined = false → s.gHold = 0 ∧ s.gFlag = false)

/-- How far the sequence stands from Rx: Rx 0, step n at n, Tx 5. -/
def Seq.rank : Seq → Nat
  | .rx => 0
  | .txStep i => i.val + 1
  | .tx => 5
  | .rxStep i => i.val + 1
  | .unused _ => 0

end Sys2Proof.Machine
end

