-- ==== Sys2Proof/Certificates/Slice0/Obligations.lean ====
section
/-! DEFINITION. The statements for the provers, in the order: encodings, the configuration image and its CRC, the
operations one by one, the cycle, invariants, runs. Where a statement has a hypothesis, Tests/Slice0.lean has a theorem
named witness_<statement> that meets it. -/

open Sys2Proof Sys2Proof.Machine

/-! ### Encodings -/

/-- 30_encoding.md R81, all sixteen control vectors (the table of 95_test_vectors.md 2.1), with any operand ports. -/
def Obligations.ControlVectorsSelectTheirOperations : Prop :=
  ∀ (img : BitVec 144) (k r : Bool) (now : Millis),
    (∀ low : BitVec 3, decode ⟨1#1 ++ low, img, k, r, now⟩ = [.reset (Image.ofBits img) now]) ∧
    decode ⟨0b0000#4, img, k, r, now⟩ = [.nop] ∧
    decode ⟨0b0001#4, img, k, r, now⟩ = [.persistAck] ∧
    decode ⟨0b0010#4, img, k, r, now⟩ = [.cfgWrite (Image.ofBits img)] ∧
    decode ⟨0b0011#4, img, k, r, now⟩ = [.cfgWrite (Image.ofBits img), .persistAck] ∧
    decode ⟨0b0100#4, img, k, r, now⟩ = [.tick k r now] ∧
    decode ⟨0b0101#4, img, k, r, now⟩ = [.tick k r now, .persistAck] ∧
    decode ⟨0b0110#4, img, k, r, now⟩ = [.tick k r now, .cfgWrite (Image.ofBits img)] ∧
    decode ⟨0b0111#4, img, k, r, now⟩ = [.tick k r now, .cfgWrite (Image.ofBits img), .persistAck]

/-- Decoding gives back every well-formed line, each operand at every value (30_encoding.md R82, R100): every operation
alone, and every set of operations that may share a cycle. -/
def Obligations.WellFormedLinesDecodeBack : Prop :=
  ∀ l : List Instr, lineWellFormed l = true → decode (encode l) = l

/-- The other direction: every sample decodes to a well-formed line, and encoding it gives the control vector back (with
RESET's don't-care bits at 0) and every operand port that some operation of the cycle reads (30_encoding.md R81, R83;
10_state.md R43). -/
def Obligations.DecodedPortsEncodeBack : Prop :=
  ∀ p : Ports,
    lineWellFormed (decode p) = true ∧
    (encode (decode p)).ctl = (if p.rst then 0b1000#4 else p.ctl) ∧
    (p.rst = true ∨ p.cfgWr = true → (encode (decode p)).cfgIn = p.cfgIn) ∧
    (p.rst = false ∧ p.tick = true →
      (encode (decode p)).keyN = p.keyN ∧ (encode (decode p)).rtsN = p.rtsN) ∧
    (p.rst = true ∨ p.tick = true → (encode (decode p)).nowMs = p.nowMs)

/-- The 144-bit ports carry an image bit for bit, byte `k` at bits `[8k+7:8k]` (10_state.md R40). -/
def Obligations.ImagePortsCarryEveryByte : Prop :=
  (∀ w : BitVec 144, (Image.ofBits w).toBits = w) ∧
  (∀ img : Image, Image.ofBits img.toBits = img) ∧
  (∀ (img : Image) (k : Nat), k < 18 → img.bytes[k]? = some (portByte img.toBits k)) ∧
  (∀ img : Image, Image.ofBytes img.bytes = some img)

/-- The sixteen 4-bit codes stand for the sixteen sequencer states, one each; ten are named (30_encoding.md R84, R86). -/
def Obligations.SequencerCodesMatchTheTable : Prop :=
  (∀ q : Seq, Seq.ofCode q.code = q) ∧ (∀ w : BitVec 4, (Seq.ofCode w).code = w) ∧
  Seq.rx.code.toNat = 0 ∧ Seq.tx.code.toNat = 5 ∧
  (∀ i : Fin 4, (Seq.txStep i).code.toNat = i.val + 1) ∧
  (∀ i : Fin 4, (Seq.rxStep i).code.toNat = 10 - (i.val + 1)) ∧
  (∀ c : Fin 6, (Seq.unused c).code.toNat = 10 + c.val)

/-! ### The configuration image and its CRC -/

/-- 30_encoding.md R92: every field is read at its own offset of the 18 bytes, 2-byte fields little-endian. -/
def Obligations.ImageFieldsSitAtTheirOffsets : Prop :=
  ∀ img : Image, ∃ b : Nat → Byte,
    img.bytes.length = 18 ∧ (∀ k, k < 18 → img.bytes[k]? = some (b k)) ∧
    (∀ i : Fin 4, (img.pol i = true ↔ b (3 * i.val) ≠ 0) ∧ img.txd i = b (3 * i.val + 1) ∧
      img.rxd i = b (3 * i.val + 2)) ∧
    (img.rtsEn = true ↔ b 12 ≠ 0) ∧ (img.ctsEn = true ↔ b 13 ≠ 0) ∧
    img.tmo.toNat = (b 14).toNat + 256 * (b 15).toNat ∧
    img.ck.toNat = (b 16).toNat + 256 * (b 17).toNat

/-- 20_memory.md R62: a read inside the record gives its bytes in order, and the two multi-byte reads give Timeout and
checksum, little-endian (R63). A range that leaves the record has no meaning in the spec: the model gives none
(DESIGN CHOICE, log entry 16). -/
def Obligations.RecordReadsGiveBytesInOrder : Prop :=
  ∀ img : Image,
    (∀ a n : Nat, a + n ≤ 18 → ∃ l, img.memRead a n = some l ∧ l.length = n ∧
      ∀ k, k < n → l[k]? = img.bytes[a + k]?) ∧
    (∀ a n : Nat, 18 < a + n → img.memRead a n = none) ∧
    (∃ lo hi : Byte, img.memRead 14 2 = some [lo, hi] ∧ img.tmo.toNat = lo.toNat + 256 * hi.toNat) ∧
    (∃ lo hi : Byte, img.memRead 16 2 = some [lo, hi] ∧ img.ck.toNat = lo.toNat + 256 * hi.toNat)

/-- 30_encoding.md R93 (marked by the spec as its own inference): the Timeout in ms is the exact product, below 2^26. -/
def Obligations.TimeoutProductIsExact : Prop :=
  ∀ img : Image, img.tmoMs.toNat = 1000 * img.tmo.toNat ∧ img.tmoMs.toNat ≤ 65535000 ∧ img.tmoMs.toNat < 2 ^ 26

/-- 40_config_crc.md R123 (from general knowledge, the spec says): the generic CRC with the tuple of CRC-16/MODBUS is R122's CRC, on every byte sequence. -/
def Obligations.GenericCrcWithModbusTupleIsModbus : Prop :=
  ∀ bs : List Byte, crc16Generic { poly := 0x8005#16, init := 0xFFFF#16, refIn := true, refOut := true, xorOut := 0 } bs =
    crc16Modbus bs

/-- The check value of 40_config_crc.md R122 over the ASCII bytes "123456789", by both rules, and the vectors V2 to V4 of
95_test_vectors.md. -/
def Obligations.CrcCheckValues : Prop :=
  crc16Modbus [0x31, 0x32, 0x33, 0x34, 0x35, 0x36, 0x37, 0x38, 0x39] = 0x4B37#16 ∧
  crc16 [0x31, 0x32, 0x33, 0x34, 0x35, 0x36, 0x37, 0x38, 0x39] = 0x4B37#16 ∧
  crc16Modbus [] = 0xFFFF#16 ∧ crc16Modbus [0x00] = 0x40BF#16 ∧ crc16Modbus [0xFF] = 0x00FF#16

/-- 40_config_crc.md R121: an image is valid exactly when R122's CRC of bytes 0..15 equals its little-endian checksum. -/
def Obligations.ValidExactlyWhenModbusChecksumMatches : Prop :=
  ∀ img : Image, img.valid = true ↔
    (crc16Modbus (img.bytes.take 16)).toNat = img.checksumLo.toNat + 256 * img.checksumHi.toNat

/-- A valid image with any one of its 18 bytes changed is refused: what "detect corruption" amounts to for one byte
(00_scope.md R16, 40_config_crc.md R121, R122). -/
def Obligations.SingleByteCorruptionIsDetected : Prop :=
  ∀ (img img' : Image) (k : Nat), img.valid = true → img ≠ img' →
    (∀ j, j ≠ k → img.bytes[j]? = img'.bytes[j]?) → img'.valid = false

/-- 40_config_crc.md R126 and R128 (R128 marked by the spec as its own inference): the default image's bytes, and that
it is valid. That the parameter stands at the spec's default is log entry 6. -/
def Obligations.DefaultImageIsTheListedBytesAndValid : Prop :=
  defaultImage.bytes = [0x00, 0x32, 0x32, 0x00, 0x32, 0x32, 0x00, 0x32, 0x32, 0x00, 0x32, 0x32, 0x00, 0x01, 0x78, 0x00,
    0xF3, 0x92] ∧ defaultImage.valid = true

/-- 30_encoding.md R95: encoding a configuration gives a valid image that decodes to it and whose flag bytes are
canonical. -/
def Obligations.EncodedConfigurationDecodesAndIsValid : Prop :=
  ∀ cfg : ConfigRecord,
    (encodeConfig cfg).decodeConfig = cfg ∧ (encodeConfig cfg).valid = true ∧
    (∀ i : Fin 4, ((encodeConfig cfg).step i).rxPolarity = 0x00 ∨ ((encodeConfig cfg).step i).rxPolarity = 0x01) ∧
    ((encodeConfig cfg).rtsEnable = 0x00 ∨ (encodeConfig cfg).rtsEnable = 0x01) ∧
    ((encodeConfig cfg).ctsEnable = 0x00 ∨ (encodeConfig cfg).ctsEnable = 0x01)

/-! ### NOP, PERSIST_ACK, CFG_WRITE, RESET -/

/-- 45_operations.md R252: NOP is the vector 0000 and writes no register; any number of NOP cycles, whatever their other
ports carry, leave the cycle after them as it would have been without them. -/
def Obligations.NopWritesNothing : Prop :=
  (∀ p : Ports, Instr.nop ∈ decode p ↔ p.ctl = 0#4) ∧ (∀ s : State, exec .nop s = .next s) ∧
  ∀ (ps : List Ports) (p : Ports) (s : State), (∀ q ∈ ps, q.ctl = 0#4) → drive (ps ++ [p]) s = drive [p] s

/-- 45_operations.md R254: PERSIST_ACK completes in every state, clears `persist_req` and writes nothing else; with
`persist_req = 0` it changes nothing. -/
def Obligations.PersistAckClearsTheRequestOnly : Prop :=
  (∀ p : Ports, Instr.persistAck ∈ decode p ↔ p.rst = false ∧ p.persistAck = true) ∧
  ∀ s : State, ∃ t, exec .persistAck s = .next t ∧ t.persistReq = false ∧
    t = { s with persistReq := t.persistReq } ∧ (s.persistReq = false → t = s)

/-- 40_config_crc.md R130: CFG_WRITE completes in every state; a valid image replaces the whole configuration, an invalid
one only sets `cfg_rejected`. Nothing else is written, in particular no latched dwell and no relay. -/
def Obligations.CfgWriteReplacesOrRefuses : Prop :=
  ∀ (img : Image) (s : State), ∃ t, exec (.cfgWrite img) s = .next t ∧
    t = { s with cfgImg := t.cfgImg, cfgRejected := t.cfgRejected } ∧
    (img.valid = true → t.cfgImg = img ∧ t.cfgRejected = false) ∧
    (img.valid = false → t.cfgImg = s.cfgImg ∧ t.cfgRejected = true)

/-- 70_reset_and_hazards.md R320 with 40_config_crc.md R127: RESET completes in every state and writes every register;
only the model's own port fields stay. -/
def Obligations.ResetWritesEveryRegister : Prop :=
  ∀ (img : Image) (now : Millis) (s : State), ∃ t, exec (.reset img now) s = .next t ∧
    t.seq = .rx ∧ t.cts = false ∧ t.tmrStart = 0 ∧ t.tmrDelay = 0 ∧ t.gHold = 0 ∧ t.gFlag = false ∧ t.gLast = now ∧
    t.obsCombined = false ∧ t.obsKey = false ∧ t.cfgRejected = false ∧
    (img.valid = true → t.cfgImg = img ∧ t.persistReq = false ∧ t.cfgDefaulted = false) ∧
    (img.valid = false → t.cfgImg = defaultImage ∧ t.persistReq = true ∧ t.cfgDefaulted = true) ∧
    (∀ i : Fin 4, t.relay.getLsbD i.val = t.cfgImg.pol i) ∧
    t.ports = s.ports ∧ t.upcoming = s.upcoming

/-- 70_reset_and_hazards.md R322 (marked by the spec as its own inference) and R321: whatever the registers hold, and after any number of earlier RESET cycles, the
state is that of the last RESET cycle alone. -/
def Obligations.HeldResetForgetsAllButItsLastCycle : Prop :=
  ∀ (ps : List Ports) (p : Ports) (s s' : State), (∀ q ∈ ps, q.rst = true) → p.rst = true →
    drive (ps ++ [p]) s = drive [p] s'

/-- The state after reset is what one RESET cycle with the default image at time 0 leaves, from any state, with the input
ports then at rest. THE MODEL'S CHOICE of that image, that time and those levels: log entries 1 and 3. -/
def Obligations.ResetStateIsAResetCyclesResult : Prop :=
  ∀ s : State, ∃ t, drive [⟨0b1000#4, defaultImage.toBits, true, true, 0⟩] s = .next t ∧
    State.reset = { t with ports := idlePorts }

/-! ### TICK: combiner and guard -/

/-- 42_combiner.md R171 to R173: the combined key of every TICK, in every state; and the gate of R174 with the guard's
new flag. -/
def Obligations.TickCombinesTheKeyLines : Prop :=
  ∀ (keyN rtsN : Bool) (now : Millis) (s : State), ∃ t, exec (.tick keyN rtsN now) s = .next t ∧
    (t.obsCombined = true ↔ keyN = false ∨ (s.cfgImg.rtsEn = true ∧ rtsN = false)) ∧
    (t.obsKey = true ↔ t.obsCombined = true ∧ t.gFlag = false) ∧
    (s.cfgImg.tmo = 0 → t.obsKey = t.obsCombined)

/-- 43_timeout_guard.md R190 (with R191 to R195): the guard's three registers after every TICK, in every state, unused
codes included. The stored combined key is R173's (the statement before this one). -/
def Obligations.TickUpdatesTheGuard : Prop :=
  ∀ (keyN rtsN : Bool) (now : Millis) (s : State), ∃ t, exec (.tick keyN rtsN now) s = .next t ∧
    t.gLast = now ∧
    (t.obsCombined = false → t.gHold = 0 ∧ t.gFlag = false) ∧
    (t.obsCombined = true →
      t.gHold.toNat = min (s.gHold.toNat + (now.toNat + 2 ^ 32 - s.gLast.toNat) % 2 ^ 32) (2 ^ 32 - 1)) ∧
    (s.cfgImg.tmo = 0 → t.gFlag = false) ∧
    (t.obsCombined = true → s.cfgImg.tmo ≠ 0 →
      (t.gFlag = true ↔ s.gFlag = true ∨ 1000 * s.cfgImg.tmo.toNat < t.gHold.toNat))

/-- 42_combiner.md R172: with the hardware key released the combined key is `rts_en AND (NOT rts_n)`; with RTS disabled
the RTS level has no effect on any result of the tick. -/
def Obligations.RtsCountsOnlyWhenEnabled : Prop :=
  (∀ (rtsN : Bool) (now : Millis) (s : State), ∃ t, exec (.tick true rtsN now) s = .next t ∧
    (t.obsCombined = true ↔ s.cfgImg.rtsEn = true ∧ rtsN = false)) ∧
  ∀ (keyN rtsN rtsN' : Bool) (now : Millis) (s : State), s.cfgImg.rtsEn = false →
    exec (.tick keyN rtsN now) s = exec (.tick keyN rtsN' now) s

/-- 60_exceptions.md R284: a TICK completes in every state, and where its new flag is 1, `key = 0` in that same tick and
the sequencer takes the `key = 0` branch of its state (44_sequencer.md R211): from Tx to S4R with CTS deasserted; from S_nT
to S_nR; in S_nR a hold before the dwell has expired, and then the release of the step's relay and the next state toward
Rx; in Rx the idle relays; in an unused code nothing. -/
def Obligations.TimeoutCutsTheKeyInItsOwnTick : Prop :=
  ∀ (keyN rtsN : Bool) (now : Millis) (s : State), ∃ t, exec (.tick keyN rtsN now) s = .next t ∧ (t.gFlag = true →
    t.obsKey = false ∧
    (s.seq = .tx → t.seq = .rxStep 3 ∧ t.relay = s.relay ∧ t.cts = false ∧ t.tmrStart = now ∧
      t.tmrDelay = s.cfgImg.rxd 3) ∧
    (∀ i, s.seq = .txStep i → t.seq = .rxStep i ∧ t.relay = s.relay ∧ t.cts = s.cts ∧ t.tmrStart = now ∧
      t.tmrDelay = s.cfgImg.rxd i) ∧
    (∀ i, s.seq = .rxStep i → s.expired now = false → t.seq = .rxStep i ∧ t.relay = s.relay ∧ t.cts = s.cts ∧
      t.tmrStart = s.tmrStart ∧ t.tmrDelay = s.tmrDelay) ∧
    (∀ i, s.seq = .rxStep i → s.expired now = true → t.cts = s.cts ∧
      (∀ m : Fin 4, t.relay.getLsbD m.val = if m = i then s.cfgImg.pol i else s.relay.getLsbD m.val) ∧
      (i = 0 → t.seq = .rx ∧ t.tmrStart = s.tmrStart ∧ t.tmrDelay = s.tmrDelay) ∧
      (∀ j : Fin 4, i.val = j.val + 1 → t.seq = .rxStep j ∧ t.tmrStart = now ∧ t.tmrDelay = s.cfgImg.rxd j)) ∧
    (s.seq = .rx → t.seq = .rx ∧ (∀ i : Fin 4, t.relay.getLsbD i.val = s.cfgImg.pol i) ∧ t.cts = false ∧
      t.tmrStart = s.tmrStart ∧ t.tmrDelay = s.tmrDelay) ∧
    (∀ c, s.seq = .unused c → t.seq = .unused c ∧ t.relay = s.relay ∧ t.cts = s.cts ∧ t.tmrStart = s.tmrStart ∧
      t.tmrDelay = s.tmrDelay))

/-! ### TICK: the sequencer. The key of the tick is the one TICK stores in `obs_key` (42_combiner.md R175). -/

/-- 44_sequencer.md R212, R214: a TICK in Rx. -/
def Obligations.TickInRx : Prop :=
  ∀ (keyN rtsN : Bool) (now : Millis) (s : State), s.seq = .rx → ∃ t, exec (.tick keyN rtsN now) s = .next t ∧
    (t.obsKey = false → t.seq = .rx ∧ (∀ i : Fin 4, t.relay.getLsbD i.val = s.cfgImg.pol i) ∧ t.cts = false ∧
      t.tmrStart = s.tmrStart ∧ t.tmrDelay = s.tmrDelay) ∧
    (t.obsKey = true → t.seq = .txStep 0 ∧ t.cts = s.cts ∧ t.tmrStart = now ∧ t.tmrDelay = s.cfgImg.txd 0 ∧
      ∀ i : Fin 4, t.relay.getLsbD i.val = if i = 0 then !s.cfgImg.pol 0 else s.relay.getLsbD i.val)

/-- 44_sequencer.md R213, R215, R216, R218, R222: a TICK in S_nT, `n = i + 1`. -/
def Obligations.TickInTransmitStep : Prop :=
  ∀ (keyN rtsN : Bool) (now : Millis) (s : State) (i : Fin 4), s.seq = .txStep i →
    ∃ t, exec (.tick keyN rtsN now) s = .next t ∧
    (t.obsKey = false → t.seq = .rxStep i ∧ t.relay = s.relay ∧ t.cts = s.cts ∧ t.tmrStart = now ∧
      t.tmrDelay = s.cfgImg.rxd i) ∧
    (t.obsKey = true → s.expired now = false → t.seq = s.seq ∧ t.relay = s.relay ∧ t.cts = s.cts ∧
      t.tmrStart = s.tmrStart ∧ t.tmrDelay = s.tmrDelay) ∧
    (t.obsKey = true → s.expired now = true → ∀ j : Fin 4, j.val = i.val + 1 →
      t.seq = .txStep j ∧ t.cts = s.cts ∧ t.tmrStart = now ∧ t.tmrDelay = s.cfgImg.txd j ∧
      ∀ m : Fin 4, t.relay.getLsbD m.val = if m = j then !s.cfgImg.pol j else s.relay.getLsbD m.val) ∧
    (t.obsKey = true → s.expired now = true → i = 3 →
      t.seq = .tx ∧ t.relay = s.relay ∧ t.cts = (s.cfgImg.ctsEn || s.cts) ∧ t.tmrStart = s.tmrStart ∧
      t.tmrDelay = s.tmrDelay)

/-- 44_sequencer.md R217, R219: a TICK in Tx. -/
def Obligations.TickInTx : Prop :=
  ∀ (keyN rtsN : Bool) (now : Millis) (s : State), s.seq = .tx → ∃ t, exec (.tick keyN rtsN now) s = .next t ∧
    t.relay = s.relay ∧
    (t.obsKey = true → t.seq = .tx ∧ t.cts = s.cts ∧ t.tmrStart = s.tmrStart ∧ t.tmrDelay = s.tmrDelay) ∧
    (t.obsKey = false → t.seq = .rxStep 3 ∧ t.cts = false ∧ t.tmrStart = now ∧ t.tmrDelay = s.cfgImg.rxd 3)

/-- 44_sequencer.md R219 to R223: a TICK in S_nR, `n = i + 1`. -/
def Obligations.TickInReceiveStep : Prop :=
  ∀ (keyN rtsN : Bool) (now : Millis) (s : State) (i : Fin 4), s.seq = .rxStep i →
    ∃ t, exec (.tick keyN rtsN now) s = .next t ∧ t.cts = s.cts ∧
    (t.obsKey = true → t.seq = .txStep i ∧ t.tmrStart = now ∧ t.tmrDelay = s.cfgImg.txd i ∧
      ∀ m : Fin 4, t.relay.getLsbD m.val = if m = i then !s.cfgImg.pol i else s.relay.getLsbD m.val) ∧
    (t.obsKey = false → s.expired now = false → t.seq = s.seq ∧ t.relay = s.relay ∧ t.tmrStart = s.tmrStart ∧
      t.tmrDelay = s.tmrDelay) ∧
    (t.obsKey = false → s.expired now = true →
      (∀ m : Fin 4, t.relay.getLsbD m.val = if m = i then s.cfgImg.pol i else s.relay.getLsbD m.val) ∧
      (i = 0 → t.seq = .rx ∧ t.tmrStart = s.tmrStart ∧ t.tmrDelay = s.tmrDelay) ∧
      (∀ j : Fin 4, i.val = j.val + 1 → t.seq = .rxStep j ∧ t.tmrStart = now ∧ t.tmrDelay = s.cfgImg.rxd j))

/-- 44_sequencer.md R224: a TICK in an unused code writes the guard and observation registers only, with the values a
TICK in Rx gives them; RESET leaves the code. -/
def Obligations.TickInUnusedCode : Prop :=
  ∀ (keyN rtsN : Bool) (now : Millis) (s : State) (c : Fin 6), s.seq = .unused c →
    (∃ t u, exec (.tick keyN rtsN now) s = .next t ∧ exec (.tick keyN rtsN now) { s with seq := .rx } = .next u ∧
      t = { s with gHold := u.gHold, gLast := u.gLast, gFlag := u.gFlag, obsCombined := u.obsCombined,
                   obsKey := u.obsKey }) ∧
    ∀ img : Image, ∃ t, exec (.reset img now) s = .next t ∧ t.seq = .rx

/-- 44_sequencer.md R210: a TICK takes one of the listed edges, or none applies and the state stays. -/
def Obligations.TickTakesOnlyTheListedEdges : Prop :=
  ∀ (keyN rtsN : Bool) (now : Millis) (s : State), ∃ t, exec (.tick keyN rtsN now) s = .next t ∧
    (Edge s.seq t.obsKey (s.expired now) t.seq ∨
      (t.seq = s.seq ∧ ∀ q, ¬ Edge s.seq t.obsKey (s.expired now) q))

/-- 41_step_timer.md R151, R156: a TICK arms the timer exactly when it enters a transitional state, with that step's own
dwell. -/
def Obligations.TimerIsArmedExactlyAtEntry : Prop :=
  ∀ (keyN rtsN : Bool) (now : Millis) (s : State), ∃ t, exec (.tick keyN rtsN now) s = .next t ∧
    (∀ i : Fin 4, t.seq = .txStep i → t.seq ≠ s.seq → t.tmrStart = now ∧ t.tmrDelay = s.cfgImg.txd i) ∧
    (∀ i : Fin 4, t.seq = .rxStep i → t.seq ≠ s.seq → t.tmrStart = now ∧ t.tmrDelay = s.cfgImg.rxd i) ∧
    (t.seq = s.seq ∨ t.seq.transitional = false → t.tmrStart = s.tmrStart ∧ t.tmrDelay = s.tmrDelay)

/-- The frame of TICK: the configuration, its status bits and the ports stay (45_operations.md R256); outside Rx a relay
moves only when its own step is entered toward transmit or released (44_sequencer.md R215, R216, R218, R219, R220). -/
def Obligations.TickFrame : Prop :=
  ∀ (keyN rtsN : Bool) (now : Millis) (s : State), ∃ t, exec (.tick keyN rtsN now) s = .next t ∧
    t.cfgImg = s.cfgImg ∧ t.persistReq = s.persistReq ∧ t.cfgDefaulted = s.cfgDefaulted ∧
    t.cfgRejected = s.cfgRejected ∧ t.ports = s.ports ∧ t.upcoming = s.upcoming ∧
    (t.cts ≠ s.cts → s.seq = .rx ∨ s.seq = .tx ∨ t.seq = .tx) ∧
    (∀ j : Fin 4, s.seq ≠ .rx → t.relay.getLsbD j.val ≠ s.relay.getLsbD j.val →
      (t.seq = .txStep j ∧ s.seq ≠ .txStep j) ∨
      (s.seq = .rxStep j ∧ t.obsKey = false ∧ s.expired now = true))

/-- 41_step_timer.md R153 (marked by the spec as its own inference) and R152: with true times the modular difference is the true elapsed time exactly when that is
below 2^32 ms, and then the dwell has expired exactly when it has been served. -/
def Obligations.ElapsedIsTrueBelowTheWrap : Prop :=
  ∀ (s : State) (t0 t1 : Nat), t0 ≤ t1 → s.tmrStart = BitVec.ofNat 32 t0 →
    (s.elapsed (BitVec.ofNat 32 t1)).toNat = (t1 - t0) % 2 ^ 32 ∧
    ((s.elapsed (BitVec.ofNat 32 t1)).toNat = t1 - t0 ↔ t1 - t0 < 2 ^ 32) ∧
    (t1 - t0 < 2 ^ 32 → (s.expired (BitVec.ofNat 32 t1) = true ↔ s.tmrDelay.toNat ≤ t1 - t0))

/-! ### The cycle -/

/-- A step runs what its ports decode to: one operation, or the operations of the cycle in order; then the next scheduled
sample is on the ports (log entry 1), and no register changes by that. -/
def Obligations.StepRunsTheDecodedOperations : Prop :=
  (∀ (s t : State) (i : Instr), i.wellFormed = true → decode s.ports = [i] → exec i s = .next t →
    step s = .next t.nextPorts) ∧
  (∀ s t : State, performAll (decode s.ports) s = .next t → step s = .next t.nextPorts) ∧
  (∀ t : State, t.upcoming = [] → t.nextPorts = t) ∧
  (∀ (t : State) (p : Ports) (rest : List Ports), t.upcoming = p :: rest →
    t.nextPorts = { t with ports := p, upcoming := rest })

/-- 45_operations.md R256, R257: one cycle, its operations done one after another, is the cycle in which every register
is computed from the state at its start and all commit together. -/
def Obligations.CycleCommitsAllRegistersTogether : Prop :=
  ∀ s : State, step s = .next (s.commitTogether s.ports).nextPorts

/-- 60_exceptions.md R280, 45_operations.md R257: every cycle completes, for every stimulus and every state. -/
def Obligations.EveryStimulusCompletes : Prop :=
  ∀ (ps : List Ports) (s : State), ∃ t, drive ps s = .next t

/-- 10_state.md R43: two samples that agree on the control vector and on the ports the cycle's operations read leave the
same registers. -/
def Obligations.UnsampledPortsHaveNoEffect : Prop :=
  ∀ (s : State) (p q x : Ports), p.ctl = q.ctl →
    (p.rst = true ∨ p.cfgWr = true → p.cfgIn = q.cfgIn) →
    (p.rst = false ∧ p.tick = true → p.keyN = q.keyN ∧ p.rtsN = q.rtsN) →
    (p.rst = true ∨ p.tick = true → p.nowMs = q.nowMs) →
    ∃ t u, drive [p] s = .next t ∧ drive [q] s = .next u ∧ { t with ports := x } = { u with ports := x }

/-- 20_memory.md R74: a CFG_WRITE in a TICK's own cycle changes nothing that the TICK writes. -/
def Obligations.TickNeverSeesItsOwnCyclesConfiguration : Prop :=
  ∀ (s : State) (p : Ports), p.rst = false → p.tick = true →
    ∃ t u, drive [p] s = .next t ∧ drive [{ p with ctl := p.ctl &&& 0b1101#4 }] s = .next u ∧
      t.seq = u.seq ∧ t.relay = u.relay ∧ t.cts = u.cts ∧ t.tmrStart = u.tmrStart ∧ t.tmrDelay = u.tmrDelay ∧
      t.gHold = u.gHold ∧ t.gLast = u.gLast ∧ t.gFlag = u.gFlag ∧ t.obsCombined = u.obsCombined ∧ t.obsKey = u.obsKey

/-- 10_state.md R41: every output but `cfg_in_valid` depends on the registers alone, and `cfg_in_valid` on `cfg_in`
alone. -/
def Obligations.OutputsAreRegistersButForCfgInValid : Prop :=
  ∀ (s : State) (p : Ports) (u : List Ports),
    ({ s with ports := p, upcoming := u } : State).outputs =
      { s.outputs with cfgInValid := (Image.ofBits p.cfgIn).valid } ∧
    s.outputs.relay = s.relay ∧ s.outputs.cts = s.cts ∧ s.outputs.state = s.seq.code ∧
    s.outputs.timeoutFlag = s.gFlag ∧ s.outputs.persistReq = s.persistReq ∧
    s.outputs.persistImg = s.cfgImg.toBits ∧ s.outputs.cfgDefaulted = s.cfgDefaulted ∧
    s.outputs.cfgRejected = s.cfgRejected ∧ s.outputs.keyObs = s.obsKey ∧ s.outputs.combinedObs = s.obsCombined

/-- 20_memory.md R68 (marked by the spec as its own inference): the image that a RESET or CFG_WRITE accepted is offered on `persist_img` bit for bit, and stays so
through any cycles that neither reset nor replace. -/
def Obligations.AcceptedImageIsOfferedUnchanged : Prop :=
  ∀ (s : State) (p : Ports) (ps : List Ports), (Image.ofBits p.cfgIn).valid = true →
    (p.rst = true ∨ p.cfgWr = true) → (∀ q ∈ ps, keepsConfig q) →
    ∃ t, drive (p :: ps) s = .next t ∧ t.outputs.persistImg = p.cfgIn

/-- 20_memory.md R67, 10_state.md R31: what every cycle does to `persist_req` and `cfg_defaulted`. -/
def Obligations.PersistRequestRisesAtSubstitutionOnly : Prop :=
  ∀ (s : State) (p : Ports), ∃ t, drive [p] s = .next t ∧
    (p.rst = true → t.persistReq = (!(Image.ofBits p.cfgIn).valid) ∧
      t.cfgDefaulted = !(Image.ofBits p.cfgIn).valid) ∧
    (p.rst = false → t.cfgDefaulted = s.cfgDefaulted ∧ t.persistReq = (s.persistReq && !p.persistAck))

/-! ### Invariants -/

/-- 40_config_crc.md R132 (marked by the spec as its own inference): no step makes the active configuration invalid. -/
def Obligations.ConfigurationStaysValid : Prop :=
  ∀ s t : State, s.configValid → step s = .next t → t.configValid

/-- 44_sequencer.md R226 (marked by the spec as its own inference): in every step, whatever its operations, that does not change `pol` or `cts_en`, the relays and
CTS keep following the sequence. -/
def Obligations.OutputsFollowTheSequence : Prop :=
  ∀ s t : State, s.outputsFollow → s.outputFieldsKept s.ports → step s = .next t → t.outputsFollow

/-- 44_sequencer.md R226 (marked by the spec as its own inference), its consequence, under any configuration change: `cts = 1` only in Tx. -/
def Obligations.CtsIsAssertedOnlyInTx : Prop :=
  ∀ s t : State, (s.cts = true → s.seq = .tx) → step s = .next t → (t.cts = true → t.seq = .tx)

/-- The observation registers and the guard's agree after every step (42_combiner.md R174, R175, 43_timeout_guard.md
R192). -/
def Obligations.ObservationStaysInAgreement : Prop :=
  ∀ s t : State, s.observationAgrees → step s = .next t → t.observationAgrees

/-- No step leaves the machine in Tx with the timeout flag set: the tick that sets it has `key = 0` and leaves Tx
(43_timeout_guard.md R196, 44_sequencer.md R217), and a later one cannot enter Tx while it is set. -/
def Obligations.TimeoutFlagNeverStandsInTx : Prop :=
  ∀ s t : State, (s.gFlag = true → s.seq ≠ .tx) → step s = .next t → (t.gFlag = true → t.seq ≠ .tx)

/-- 30_encoding.md R87 (marked by the spec as its own inference): no operation leads from a named state to an unused code. -/
def Obligations.NamedStatesStayNamed : Prop :=
  ∀ s t : State, s.seq.named = true → step s = .next t → t.seq.named = true

/-- 70_reset_and_hazards.md R336 (marked by the spec as its own inference): an unused code is left by RESET only, and by every RESET to Rx. -/
def Obligations.UnusedCodeIsLeftByResetOnly : Prop :=
  ∀ (ps : List Ports) (s : State) (c : Fin 6), s.seq = .unused c →
    ∃ t, drive ps s = .next t ∧ ((∀ p ∈ ps, p.rst = false) → t.seq = .unused c) ∧
      (∀ p : Ports, p.rst = true → ∃ u, drive (ps ++ [p]) s = .next u ∧ u.seq = .rx)

/-- The state after reset meets every invariant above. It is the model's choice of a RESET (log entry 3). -/
def Obligations.ResetStateMeetsTheInvariants : Prop :=
  State.reset.configValid ∧ State.reset.outputsFollow ∧ State.reset.observationAgrees ∧
  State.reset.seq.named = true ∧ (State.reset.cts = true → State.reset.seq = .tx) ∧
  (State.reset.gFlag = true → State.reset.seq ≠ .tx)

/-! ### Runs -/

/-- 43_timeout_guard.md R201 (P5; marked by the spec as its own inference): with `tmo = 0` and a raw source held at every tick, Tx is never left, for any length of
time, and nothing moves. -/
def Obligations.InertGuardNeverLeavesTx : Prop :=
  ∀ (ps : List Ports) (s : State), s.seq = .tx → s.cfgImg.tmo = 0 →
    (∀ p ∈ ps, keepsConfig p ∧ (p.tick = true → s.combined p.keyN p.rtsN = true)) →
    ∃ t, drive ps s = .next t ∧ t.seq = .tx ∧ t.cts = s.cts ∧ t.relay = s.relay

/-- 43_timeout_guard.md R197: with `tmo > 0` a set flag stays set, and the key stays 0, through any ticks that see a held
source; and in Rx the machine stays in Rx (R201). -/
def Obligations.TimeoutFlagIsStickyWhileHeld : Prop :=
  ∀ (ps : List Ports) (s : State), s.gFlag = true → s.obsKey = false → s.cfgImg.tmo ≠ 0 →
    (∀ p ∈ ps, keepsConfig p ∧ (p.tick = true → s.combined p.keyN p.rtsN = true)) →
    ∃ t, drive ps s = .next t ∧ t.gFlag = true ∧ t.obsKey = false ∧ (s.seq = .rx → t.seq = .rx)

/-- 43_timeout_guard.md R197: a set flag is cleared by exactly three things, whatever else the cycle does: RESET, a TICK
that sees every enabled source released, a TICK with `tmo = 0`. -/
def Obligations.TimeoutFlagClearsOnlyOnThreeEvents : Prop :=
  ∀ (p : Ports) (s : State), s.gFlag = true → ∃ t, drive [p] s = .next t ∧
    (t.gFlag = false ↔ p.rst = true ∨
      (p.rst = false ∧ p.tick = true ∧ (s.combined p.keyN p.rtsN = false ∨ s.cfgImg.tmo = 0)))

/-- 43_timeout_guard.md R200 (marked by the spec as its own inference): after a released tick (or RESET) at the true time `tf`, consecutive held ticks at true
times make the hold-duration the true time since `tf`, saturating, and the flag is set exactly when that exceeds
1000 * tmo. -/
def Obligations.HoldDurationIsTheTrueHeldTime : Prop :=
  ∀ (keyN rtsN : Bool) (times : List Nat) (tf : Nat) (s : State),
    s.gLast = BitVec.ofNat 32 tf → s.gHold = 0 → s.gFlag = false → s.combined keyN rtsN = true →
    timesAdvance (tf :: times) →
    ∃ t, drive (times.map (tickAt keyN rtsN)) s = .next t ∧
      t.gHold.toNat = min (((tf :: times).getLast (by simp)) - tf) (2 ^ 32 - 1) ∧
      (t.gFlag = true ↔ s.cfgImg.tmo ≠ 0 ∧ 1000 * s.cfgImg.tmo.toNat < ((tf :: times).getLast (by simp)) - tf)

/-- 43_timeout_guard.md R201 (P4; marked by the spec as its own inference): from Tx, with the
source held and a first tick whose new flag is 1, five ticks that serve the four RxDelays walk Tx, S4R, S3R, S2R, S1R, Rx:
CTS drops in the first, and they end with every relay idle and the flag still set. -/
def Obligations.ForcedReleaseWalksTheChainToRx : Prop :=
  ∀ (keyN rtsN : Bool) (t0 t1 t2 t3 t4 : Nat) (s : State),
    s.seq = .tx → s.combined keyN rtsN = true → s.guardFlagNext true (BitVec.ofNat Config.clkW t0) = true →
    timesAdvance [t0, t1, t2, t3, t4] →
    (s.cfgImg.rxd 3).toNat ≤ t1 - t0 → (s.cfgImg.rxd 2).toNat ≤ t2 - t1 →
    (s.cfgImg.rxd 1).toNat ≤ t3 - t2 → (s.cfgImg.rxd 0).toNat ≤ t4 - t3 →
    ∃ s0 s1 s2 s3 s4,
      drive [tickAt keyN rtsN t0] s = .next s0 ∧ s0.seq = .rxStep 3 ∧ s0.gFlag = true ∧ s0.cts = false ∧
      drive [tickAt keyN rtsN t1] s0 = .next s1 ∧ s1.seq = .rxStep 2 ∧
      drive [tickAt keyN rtsN t2] s1 = .next s2 ∧ s2.seq = .rxStep 1 ∧
      drive [tickAt keyN rtsN t3] s2 = .next s3 ∧ s3.seq = .rxStep 0 ∧
      drive [tickAt keyN rtsN t4] s3 = .next s4 ∧ s4.seq = .rx ∧ s4.gFlag = true ∧ s4.cts = false ∧
      ∀ i : Fin 4, s4.relay.getLsbD i.val = s.cfgImg.pol i

/-- P2 (44_sequencer.md R227, marked by the spec as its own inference, with 90_conflicts.md C9): from Rx, five held ticks that serve the four TxDelays, without a
timeout by the end, drive the machine to Tx with every relay transmit-active and CTS as enabled. -/
def Obligations.HeldKeyDrivesTheChainToTx : Prop :=
  ∀ (keyN rtsN : Bool) (t0 t1 t2 t3 t4 : Nat) (s : State),
    s.seq = .rx → s.cts = false → s.combined keyN rtsN = true →
    timesAdvance [t0, t1, t2, t3, t4] →
    (s.cfgImg.txd 0).toNat ≤ t1 - t0 → (s.cfgImg.txd 1).toNat ≤ t2 - t1 →
    (s.cfgImg.txd 2).toNat ≤ t3 - t2 → (s.cfgImg.txd 3).toNat ≤ t4 - t3 →
    ∃ t, drive ([t0, t1, t2, t3, t4].map (tickAt keyN rtsN)) s = .next t ∧
      (t.gFlag = false → t.seq = .tx ∧ t.cts = s.cfgImg.ctsEn ∧ ∀ i : Fin 4, t.relay.getLsbD i.val = !s.cfgImg.pol i)

/-- 44_sequencer.md R227: cycles of which fewer than five perform a TICK never lead from Rx to Tx, and, without a
RESET, never from Tx to Rx, whatever else those cycles do. The spec marks R227 as its own inference. -/
def Obligations.FewerThanFiveTicksNeverCrossTheChain : Prop :=
  ∀ (ps : List Ports) (s : State), (ps.filter performsTick).length < 5 →
    ∃ t, drive ps s = .next t ∧ (s.seq = .rx → t.seq ≠ .tx) ∧
      (s.seq = .tx → (∀ p ∈ ps, p.rst = false) → t.seq ≠ .rx)

/-- 44_sequencer.md R228 (P6; marked by the spec as its own inference): repeated released ticks in Rx leave the state Rx and all four relays at their idle
positions. -/
def Obligations.ReleasedTicksInRxKeepRelaysIdle : Prop :=
  ∀ (ps : List Ports) (s : State), s.seq = .rx → ps ≠ [] →
    (∀ p ∈ ps, keepsConfig p ∧ p.tick = true ∧ s.combined p.keyN p.rtsN = false) →
    ∃ t, drive ps s = .next t ∧ t.seq = .rx ∧ t.cts = false ∧
      ∀ i : Fin 4, t.relay.getLsbD i.val = s.cfgImg.pol i
end

