-- ==== Sys2Proof/Laws/State.lean ====
section
/-! SUPPORT. One lemma per field for each register update of Machine/Ops.lean, true by unfolding. -/

namespace Sys2Proof.Machine

variable (s : State)

/-! ### `State.driveRelay` -/

@[simp] theorem State.driveRelay_seq (i : Fin 4) (b : Bool) : (s.driveRelay i b).seq = s.seq := rfl
@[simp] theorem State.driveRelay_tmrStart (i : Fin 4) (b : Bool) : (s.driveRelay i b).tmrStart = s.tmrStart := rfl
@[simp] theorem State.driveRelay_tmrDelay (i : Fin 4) (b : Bool) : (s.driveRelay i b).tmrDelay = s.tmrDelay := rfl
@[simp] theorem State.driveRelay_gHold (i : Fin 4) (b : Bool) : (s.driveRelay i b).gHold = s.gHold := rfl
@[simp] theorem State.driveRelay_gLast (i : Fin 4) (b : Bool) : (s.driveRelay i b).gLast = s.gLast := rfl
@[simp] theorem State.driveRelay_gFlag (i : Fin 4) (b : Bool) : (s.driveRelay i b).gFlag = s.gFlag := rfl
@[simp] theorem State.driveRelay_relay (i : Fin 4) (b : Bool) : (s.driveRelay i b).relay = setRelayBit s.relay i b := rfl
@[simp] theorem State.driveRelay_cts (i : Fin 4) (b : Bool) : (s.driveRelay i b).cts = s.cts := rfl
@[simp] theorem State.driveRelay_cfgImg (i : Fin 4) (b : Bool) : (s.driveRelay i b).cfgImg = s.cfgImg := rfl
@[simp] theorem State.driveRelay_persistReq (i : Fin 4) (b : Bool) : (s.driveRelay i b).persistReq = s.persistReq := rfl
@[simp] theorem State.driveRelay_cfgDefaulted (i : Fin 4) (b : Bool) : (s.driveRelay i b).cfgDefaulted = s.cfgDefaulted := rfl
@[simp] theorem State.driveRelay_cfgRejected (i : Fin 4) (b : Bool) : (s.driveRelay i b).cfgRejected = s.cfgRejected := rfl
@[simp] theorem State.driveRelay_obsCombined (i : Fin 4) (b : Bool) : (s.driveRelay i b).obsCombined = s.obsCombined := rfl
@[simp] theorem State.driveRelay_obsKey (i : Fin 4) (b : Bool) : (s.driveRelay i b).obsKey = s.obsKey := rfl
@[simp] theorem State.driveRelay_ports (i : Fin 4) (b : Bool) : (s.driveRelay i b).ports = s.ports := rfl
@[simp] theorem State.driveRelay_upcoming (i : Fin 4) (b : Bool) : (s.driveRelay i b).upcoming = s.upcoming := rfl

/-! ### `State.arm` -/

@[simp] theorem State.arm_seq (d : Byte) (now : Millis) : (s.arm d now).seq = s.seq := rfl
@[simp] theorem State.arm_tmrStart (d : Byte) (now : Millis) : (s.arm d now).tmrStart = now := rfl
@[simp] theorem State.arm_tmrDelay (d : Byte) (now : Millis) : (s.arm d now).tmrDelay = d := rfl
@[simp] theorem State.arm_gHold (d : Byte) (now : Millis) : (s.arm d now).gHold = s.gHold := rfl
@[simp] theorem State.arm_gLast (d : Byte) (now : Millis) : (s.arm d now).gLast = s.gLast := rfl
@[simp] theorem State.arm_gFlag (d : Byte) (now : Millis) : (s.arm d now).gFlag = s.gFlag := rfl
@[simp] theorem State.arm_relay (d : Byte) (now : Millis) : (s.arm d now).relay = s.relay := rfl
@[simp] theorem State.arm_cts (d : Byte) (now : Millis) : (s.arm d now).cts = s.cts := rfl
@[simp] theorem State.arm_cfgImg (d : Byte) (now : Millis) : (s.arm d now).cfgImg = s.cfgImg := rfl
@[simp] theorem State.arm_persistReq (d : Byte) (now : Millis) : (s.arm d now).persistReq = s.persistReq := rfl
@[simp] theorem State.arm_cfgDefaulted (d : Byte) (now : Millis) : (s.arm d now).cfgDefaulted = s.cfgDefaulted := rfl
@[simp] theorem State.arm_cfgRejected (d : Byte) (now : Millis) : (s.arm d now).cfgRejected = s.cfgRejected := rfl
@[simp] theorem State.arm_obsCombined (d : Byte) (now : Millis) : (s.arm d now).obsCombined = s.obsCombined := rfl
@[simp] theorem State.arm_obsKey (d : Byte) (now : Millis) : (s.arm d now).obsKey = s.obsKey := rfl
@[simp] theorem State.arm_ports (d : Byte) (now : Millis) : (s.arm d now).ports = s.ports := rfl
@[simp] theorem State.arm_upcoming (d : Byte) (now : Millis) : (s.arm d now).upcoming = s.upcoming := rfl

/-! ### `State.enterT` -/

@[simp] theorem State.enterT_seq (i : Fin 4) (now : Millis) : (s.enterT i now).seq = .txStep i := rfl
@[simp] theorem State.enterT_tmrStart (i : Fin 4) (now : Millis) : (s.enterT i now).tmrStart = now := rfl
@[simp] theorem State.enterT_tmrDelay (i : Fin 4) (now : Millis) : (s.enterT i now).tmrDelay = s.cfgImg.txd i := rfl
@[simp] theorem State.enterT_gHold (i : Fin 4) (now : Millis) : (s.enterT i now).gHold = s.gHold := rfl
@[simp] theorem State.enterT_gLast (i : Fin 4) (now : Millis) : (s.enterT i now).gLast = s.gLast := rfl
@[simp] theorem State.enterT_gFlag (i : Fin 4) (now : Millis) : (s.enterT i now).gFlag = s.gFlag := rfl
@[simp] theorem State.enterT_relay (i : Fin 4) (now : Millis) : (s.enterT i now).relay = setRelayBit s.relay i (!s.cfgImg.pol i) := rfl
@[simp] theorem State.enterT_cts (i : Fin 4) (now : Millis) : (s.enterT i now).cts = s.cts := rfl
@[simp] theorem State.enterT_cfgImg (i : Fin 4) (now : Millis) : (s.enterT i now).cfgImg = s.cfgImg := rfl
@[simp] theorem State.enterT_persistReq (i : Fin 4) (now : Millis) : (s.enterT i now).persistReq = s.persistReq := rfl
@[simp] theorem State.enterT_cfgDefaulted (i : Fin 4) (now : Millis) : (s.enterT i now).cfgDefaulted = s.cfgDefaulted := rfl
@[simp] theorem State.enterT_cfgRejected (i : Fin 4) (now : Millis) : (s.enterT i now).cfgRejected = s.cfgRejected := rfl
@[simp] theorem State.enterT_obsCombined (i : Fin 4) (now : Millis) : (s.enterT i now).obsCombined = s.obsCombined := rfl
@[simp] theorem State.enterT_obsKey (i : Fin 4) (now : Millis) : (s.enterT i now).obsKey = s.obsKey := rfl
@[simp] theorem State.enterT_ports (i : Fin 4) (now : Millis) : (s.enterT i now).ports = s.ports := rfl
@[simp] theorem State.enterT_upcoming (i : Fin 4) (now : Millis) : (s.enterT i now).upcoming = s.upcoming := rfl

/-! ### `State.enterR` -/

@[simp] theorem State.enterR_seq (i : Fin 4) (now : Millis) : (s.enterR i now).seq = .rxStep i := rfl
@[simp] theorem State.enterR_tmrStart (i : Fin 4) (now : Millis) : (s.enterR i now).tmrStart = now := rfl
@[simp] theorem State.enterR_tmrDelay (i : Fin 4) (now : Millis) : (s.enterR i now).tmrDelay = s.cfgImg.rxd i := rfl
@[simp] theorem State.enterR_gHold (i : Fin 4) (now : Millis) : (s.enterR i now).gHold = s.gHold := rfl
@[simp] theorem State.enterR_gLast (i : Fin 4) (now : Millis) : (s.enterR i now).gLast = s.gLast := rfl
@[simp] theorem State.enterR_gFlag (i : Fin 4) (now : Millis) : (s.enterR i now).gFlag = s.gFlag := rfl
@[simp] theorem State.enterR_relay (i : Fin 4) (now : Millis) : (s.enterR i now).relay = s.relay := rfl
@[simp] theorem State.enterR_cts (i : Fin 4) (now : Millis) : (s.enterR i now).cts = s.cts := rfl
@[simp] theorem State.enterR_cfgImg (i : Fin 4) (now : Millis) : (s.enterR i now).cfgImg = s.cfgImg := rfl
@[simp] theorem State.enterR_persistReq (i : Fin 4) (now : Millis) : (s.enterR i now).persistReq = s.persistReq := rfl
@[simp] theorem State.enterR_cfgDefaulted (i : Fin 4) (now : Millis) : (s.enterR i now).cfgDefaulted = s.cfgDefaulted := rfl
@[simp] theorem State.enterR_cfgRejected (i : Fin 4) (now : Millis) : (s.enterR i now).cfgRejected = s.cfgRejected := rfl
@[simp] theorem State.enterR_obsCombined (i : Fin 4) (now : Millis) : (s.enterR i now).obsCombined = s.obsCombined := rfl
@[simp] theorem State.enterR_obsKey (i : Fin 4) (now : Millis) : (s.enterR i now).obsKey = s.obsKey := rfl
@[simp] theorem State.enterR_ports (i : Fin 4) (now : Millis) : (s.enterR i now).ports = s.ports := rfl
@[simp] theorem State.enterR_upcoming (i : Fin 4) (now : Millis) : (s.enterR i now).upcoming = s.upcoming := rfl

/-! ### `State.enterTx` -/

@[simp] theorem State.enterTx_seq : s.enterTx.seq = .tx := rfl
@[simp] theorem State.enterTx_tmrStart : s.enterTx.tmrStart = s.tmrStart := rfl
@[simp] theorem State.enterTx_tmrDelay : s.enterTx.tmrDelay = s.tmrDelay := rfl
@[simp] theorem State.enterTx_gHold : s.enterTx.gHold = s.gHold := rfl
@[simp] theorem State.enterTx_gLast : s.enterTx.gLast = s.gLast := rfl
@[simp] theorem State.enterTx_gFlag : s.enterTx.gFlag = s.gFlag := rfl
@[simp] theorem State.enterTx_relay : s.enterTx.relay = s.relay := rfl
@[simp] theorem State.enterTx_cts : s.enterTx.cts = if s.cfgImg.ctsEn then true else s.cts := rfl
@[simp] theorem State.enterTx_cfgImg : s.enterTx.cfgImg = s.cfgImg := rfl
@[simp] theorem State.enterTx_persistReq : s.enterTx.persistReq = s.persistReq := rfl
@[simp] theorem State.enterTx_cfgDefaulted : s.enterTx.cfgDefaulted = s.cfgDefaulted := rfl
@[simp] theorem State.enterTx_cfgRejected : s.enterTx.cfgRejected = s.cfgRejected := rfl
@[simp] theorem State.enterTx_obsCombined : s.enterTx.obsCombined = s.obsCombined := rfl
@[simp] theorem State.enterTx_obsKey : s.enterTx.obsKey = s.obsKey := rfl
@[simp] theorem State.enterTx_ports : s.enterTx.ports = s.ports := rfl
@[simp] theorem State.enterTx_upcoming : s.enterTx.upcoming = s.upcoming := rfl

/-! ### `State.redriveIdle` -/

@[simp] theorem State.redriveIdle_seq : s.redriveIdle.seq = s.seq := rfl
@[simp] theorem State.redriveIdle_tmrStart : s.redriveIdle.tmrStart = s.tmrStart := rfl
@[simp] theorem State.redriveIdle_tmrDelay : s.redriveIdle.tmrDelay = s.tmrDelay := rfl
@[simp] theorem State.redriveIdle_gHold : s.redriveIdle.gHold = s.gHold := rfl
@[simp] theorem State.redriveIdle_gLast : s.redriveIdle.gLast = s.gLast := rfl
@[simp] theorem State.redriveIdle_gFlag : s.redriveIdle.gFlag = s.gFlag := rfl
@[simp] theorem State.redriveIdle_relay : s.redriveIdle.relay = s.cfgImg.idleRelays := rfl
@[simp] theorem State.redriveIdle_cts : s.redriveIdle.cts = false := rfl
@[simp] theorem State.redriveIdle_cfgImg : s.redriveIdle.cfgImg = s.cfgImg := rfl
@[simp] theorem State.redriveIdle_persistReq : s.redriveIdle.persistReq = s.persistReq := rfl
@[simp] theorem State.redriveIdle_cfgDefaulted : s.redriveIdle.cfgDefaulted = s.cfgDefaulted := rfl
@[simp] theorem State.redriveIdle_cfgRejected : s.redriveIdle.cfgRejected = s.cfgRejected := rfl
@[simp] theorem State.redriveIdle_obsCombined : s.redriveIdle.obsCombined = s.obsCombined := rfl
@[simp] theorem State.redriveIdle_obsKey : s.redriveIdle.obsKey = s.obsKey := rfl
@[simp] theorem State.redriveIdle_ports : s.redriveIdle.ports = s.ports := rfl
@[simp] theorem State.redriveIdle_upcoming : s.redriveIdle.upcoming = s.upcoming := rfl

/-! ### `State.writeGuard` -/

@[simp] theorem State.writeGuard_seq (c : Bool) (now : Millis) : (s.writeGuard c now).seq = s.seq := rfl
@[simp] theorem State.writeGuard_tmrStart (c : Bool) (now : Millis) : (s.writeGuard c now).tmrStart = s.tmrStart := rfl
@[simp] theorem State.writeGuard_tmrDelay (c : Bool) (now : Millis) : (s.writeGuard c now).tmrDelay = s.tmrDelay := rfl
@[simp] theorem State.writeGuard_gHold (c : Bool) (now : Millis) : (s.writeGuard c now).gHold = s.guardHoldNext c now := rfl
@[simp] theorem State.writeGuard_gLast (c : Bool) (now : Millis) : (s.writeGuard c now).gLast = now := rfl
@[simp] theorem State.writeGuard_gFlag (c : Bool) (now : Millis) : (s.writeGuard c now).gFlag = s.guardFlagNext c now := rfl
@[simp] theorem State.writeGuard_relay (c : Bool) (now : Millis) : (s.writeGuard c now).relay = s.relay := rfl
@[simp] theorem State.writeGuard_cts (c : Bool) (now : Millis) : (s.writeGuard c now).cts = s.cts := rfl
@[simp] theorem State.writeGuard_cfgImg (c : Bool) (now : Millis) : (s.writeGuard c now).cfgImg = s.cfgImg := rfl
@[simp] theorem State.writeGuard_persistReq (c : Bool) (now : Millis) : (s.writeGuard c now).persistReq = s.persistReq := rfl
@[simp] theorem State.writeGuard_cfgDefaulted (c : Bool) (now : Millis) : (s.writeGuard c now).cfgDefaulted = s.cfgDefaulted := rfl
@[simp] theorem State.writeGuard_cfgRejected (c : Bool) (now : Millis) : (s.writeGuard c now).cfgRejected = s.cfgRejected := rfl
@[simp] theorem State.writeGuard_obsCombined (c : Bool) (now : Millis) : (s.writeGuard c now).obsCombined = c := rfl
@[simp] theorem State.writeGuard_obsKey (c : Bool) (now : Millis) : (s.writeGuard c now).obsKey = gatedKey c (s.guardFlagNext c now) := rfl
@[simp] theorem State.writeGuard_ports (c : Bool) (now : Millis) : (s.writeGuard c now).ports = s.ports := rfl
@[simp] theorem State.writeGuard_upcoming (c : Bool) (now : Millis) : (s.writeGuard c now).upcoming = s.upcoming := rfl

/-! ### `State.resetRegisters` -/

@[simp] theorem State.resetRegisters_seq (img : Image) (now : Millis) : (s.resetRegisters img now).seq = .rx := rfl
@[simp] theorem State.resetRegisters_tmrStart (img : Image) (now : Millis) : (s.resetRegisters img now).tmrStart = 0 := rfl
@[simp] theorem State.resetRegisters_tmrDelay (img : Image) (now : Millis) : (s.resetRegisters img now).tmrDelay = 0 := rfl
@[simp] theorem State.resetRegisters_gHold (img : Image) (now : Millis) : (s.resetRegisters img now).gHold = 0 := rfl
@[simp] theorem State.resetRegisters_gLast (img : Image) (now : Millis) : (s.resetRegisters img now).gLast = now := rfl
@[simp] theorem State.resetRegisters_gFlag (img : Image) (now : Millis) : (s.resetRegisters img now).gFlag = false := rfl
@[simp] theorem State.resetRegisters_relay (img : Image) (now : Millis) : (s.resetRegisters img now).relay = (loadAtReset img).1.idleRelays := rfl
@[simp] theorem State.resetRegisters_cts (img : Image) (now : Millis) : (s.resetRegisters img now).cts = false := rfl
@[simp] theorem State.resetRegisters_cfgImg (img : Image) (now : Millis) : (s.resetRegisters img now).cfgImg = (loadAtReset img).1 := rfl
@[simp] theorem State.resetRegisters_persistReq (img : Image) (now : Millis) : (s.resetRegisters img now).persistReq = (loadAtReset img).2 := rfl
@[simp] theorem State.resetRegisters_cfgDefaulted (img : Image) (now : Millis) : (s.resetRegisters img now).cfgDefaulted = (loadAtReset img).2 := rfl
@[simp] theorem State.resetRegisters_cfgRejected (img : Image) (now : Millis) : (s.resetRegisters img now).cfgRejected = false := rfl
@[simp] theorem State.resetRegisters_obsCombined (img : Image) (now : Millis) : (s.resetRegisters img now).obsCombined = false := rfl
@[simp] theorem State.resetRegisters_obsKey (img : Image) (now : Millis) : (s.resetRegisters img now).obsKey = false := rfl
@[simp] theorem State.resetRegisters_ports (img : Image) (now : Millis) : (s.resetRegisters img now).ports = s.ports := rfl
@[simp] theorem State.resetRegisters_upcoming (img : Image) (now : Millis) : (s.resetRegisters img now).upcoming = s.upcoming := rfl

/-! ### `State.replaceConfig` -/

@[simp] theorem State.replaceConfig_seq (img : Image) : (s.replaceConfig img).seq = s.seq := by
  unfold State.replaceConfig; split <;> rfl
@[simp] theorem State.replaceConfig_tmrStart (img : Image) : (s.replaceConfig img).tmrStart = s.tmrStart := by
  unfold State.replaceConfig; split <;> rfl
@[simp] theorem State.replaceConfig_tmrDelay (img : Image) : (s.replaceConfig img).tmrDelay = s.tmrDelay := by
  unfold State.replaceConfig; split <;> rfl
@[simp] theorem State.replaceConfig_gHold (img : Image) : (s.replaceConfig img).gHold = s.gHold := by
  unfold State.replaceConfig; split <;> rfl
@[simp] theorem State.replaceConfig_gLast (img : Image) : (s.replaceConfig img).gLast = s.gLast := by
  unfold State.replaceConfig; split <;> rfl
@[simp] theorem State.replaceConfig_gFlag (img : Image) : (s.replaceConfig img).gFlag = s.gFlag := by
  unfold State.replaceConfig; split <;> rfl
@[simp] theorem State.replaceConfig_relay (img : Image) : (s.replaceConfig img).relay = s.relay := by
  unfold State.replaceConfig; split <;> rfl
@[simp] theorem State.replaceConfig_cts (img : Image) : (s.replaceConfig img).cts = s.cts := by
  unfold State.replaceConfig; split <;> rfl
@[simp] theorem State.replaceConfig_persistReq (img : Image) : (s.replaceConfig img).persistReq = s.persistReq := by
  unfold State.replaceConfig; split <;> rfl
@[simp] theorem State.replaceConfig_cfgDefaulted (img : Image) : (s.replaceConfig img).cfgDefaulted = s.cfgDefaulted := by
  unfold State.replaceConfig; split <;> rfl
@[simp] theorem State.replaceConfig_obsCombined (img : Image) : (s.replaceConfig img).obsCombined = s.obsCombined := by
  unfold State.replaceConfig; split <;> rfl
@[simp] theorem State.replaceConfig_obsKey (img : Image) : (s.replaceConfig img).obsKey = s.obsKey := by
  unfold State.replaceConfig; split <;> rfl
@[simp] theorem State.replaceConfig_ports (img : Image) : (s.replaceConfig img).ports = s.ports := by
  unfold State.replaceConfig; split <;> rfl
@[simp] theorem State.replaceConfig_upcoming (img : Image) : (s.replaceConfig img).upcoming = s.upcoming := by
  unfold State.replaceConfig; split <;> rfl

@[simp] theorem State.replaceConfig_cfgImg (img : Image) :
    (s.replaceConfig img).cfgImg = if img.valid then img else s.cfgImg := by
  unfold State.replaceConfig; split <;> rfl
@[simp] theorem State.replaceConfig_cfgRejected (img : Image) : (s.replaceConfig img).cfgRejected = !img.valid := by
  unfold State.replaceConfig; cases img.valid <;> rfl

/-! ### `State.nextPorts` -/

@[simp] theorem State.nextPorts_seq : s.nextPorts.seq = s.seq := by
  unfold State.nextPorts; split <;> rfl
@[simp] theorem State.nextPorts_tmrStart : s.nextPorts.tmrStart = s.tmrStart := by
  unfold State.nextPorts; split <;> rfl
@[simp] theorem State.nextPorts_tmrDelay : s.nextPorts.tmrDelay = s.tmrDelay := by
  unfold State.nextPorts; split <;> rfl
@[simp] theorem State.nextPorts_gHold : s.nextPorts.gHold = s.gHold := by
  unfold State.nextPorts; split <;> rfl
@[simp] theorem State.nextPorts_gLast : s.nextPorts.gLast = s.gLast := by
  unfold State.nextPorts; split <;> rfl
@[simp] theorem State.nextPorts_gFlag : s.nextPorts.gFlag = s.gFlag := by
  unfold State.nextPorts; split <;> rfl
@[simp] theorem State.nextPorts_relay : s.nextPorts.relay = s.relay := by
  unfold State.nextPorts; split <;> rfl
@[simp] theorem State.nextPorts_cts : s.nextPorts.cts = s.cts := by
  unfold State.nextPorts; split <;> rfl
@[simp] theorem State.nextPorts_cfgImg : s.nextPorts.cfgImg = s.cfgImg := by
  unfold State.nextPorts; split <;> rfl
@[simp] theorem State.nextPorts_persistReq : s.nextPorts.persistReq = s.persistReq := by
  unfold State.nextPorts; split <;> rfl
@[simp] theorem State.nextPorts_cfgDefaulted : s.nextPorts.cfgDefaulted = s.cfgDefaulted := by
  unfold State.nextPorts; split <;> rfl
@[simp] theorem State.nextPorts_cfgRejected : s.nextPorts.cfgRejected = s.cfgRejected := by
  unfold State.nextPorts; split <;> rfl
@[simp] theorem State.nextPorts_obsCombined : s.nextPorts.obsCombined = s.obsCombined := by
  unfold State.nextPorts; split <;> rfl
@[simp] theorem State.nextPorts_obsKey : s.nextPorts.obsKey = s.obsKey := by
  unfold State.nextPorts; split <;> rfl

end Sys2Proof.Machine
end

