-- ==== Sys2Proof/Laws/Ops.lean ====
section
/-! SUPPORT. For each shared operation, what it can do, said once. -/

namespace Sys2Proof.Machine

/-! ### Relay bits -/

theorem setRelayBit_getLsbD (w : BitVec 4) (i j : Fin 4) (b : Bool) :
    (setRelayBit w i b).getLsbD j.val = if j = i then b else w.getLsbD j.val := by
  fin_cases i <;> fin_cases j <;> cases b <;> simp [setRelayBit]

theorem fourBits_getLsbD (a b c d : Bool) (i : Fin 4) :
    (BitVec.ofBool d ++ BitVec.ofBool c ++ BitVec.ofBool b ++ BitVec.ofBool a).getLsbD i.val =
      (match i with | 0 => a | 1 => b | 2 => c | 3 => d) := by
  revert a b c d i
  decide

theorem idleRelays_getLsbD (img : Image) (i : Fin 4) : img.idleRelays.getLsbD i.val = img.pol i := by
  rw [Image.idleRelays, fourBits_getLsbD]
  fin_cases i <;> rfl

/-- The same with the bit read by index, which is simp's normal form. -/
@[simp] theorem setRelayBit_getElem (w : BitVec 4) (i j : Fin 4) (b : Bool) :
    (setRelayBit w i b)[j.val] = if j = i then b else w[j.val] := by
  simpa using setRelayBit_getLsbD w i j b

@[simp] theorem idleRelays_getElem (img : Image) (i : Fin 4) : img.idleRelays[i.val] = img.pol i := by
  simpa using idleRelays_getLsbD img i

/-! ### Arithmetic of time -/

theorem timeDiff_toNat {w : Nat} (a b : BitVec w) :
    (timeDiff a b).toNat = (a.toNat + 2 ^ w - b.toNat) % 2 ^ w := by
  simp only [timeDiff, BitVec.toNat_sub]
  have := b.isLt
  congr 1
  omega

theorem saturate_toNat (w x : Nat) : (saturate w x).toNat = min x (2 ^ w - 1) := by
  have h : 0 < 2 ^ w := Nat.two_pow_pos w
  simp only [saturate, BitVec.toNat_ofNat]
  exact Nat.mod_eq_of_lt (by omega)

theorem elapsed_toNat (s : State) (now : Millis) :
    (s.elapsed now).toNat = (now.toNat + 2 ^ Config.clkW - s.tmrStart.toNat) % 2 ^ Config.clkW :=
  timeDiff_toNat now s.tmrStart

theorem guardDelta_toNat (s : State) (now : Millis) :
    (s.guardDelta now).toNat = (now.toNat + 2 ^ Config.clkW - s.gLast.toNat) % 2 ^ Config.clkW :=
  timeDiff_toNat now s.gLast

theorem guardHoldNext_toNat (s : State) (combined : Bool) (now : Millis) :
    (s.guardHoldNext combined now).toNat =
      if combined then min (s.gHold.toNat + (s.guardDelta now).toNat) (2 ^ Config.accW - 1) else 0 := by
  cases combined <;> simp [State.guardHoldNext, saturate_toNat]

theorem expired_iff (s : State) (now : Millis) :
    s.expired now = true ↔ s.tmrDelay.toNat ≤ (s.elapsed now).toNat := by
  simp only [State.expired, decide_eq_true_eq]

/-! ### What the guard's and the observation registers' update leaves to the sequencer -/

@[simp] theorem writeGuard_expired (s : State) (c : Bool) (now now' : Millis) :
    (s.writeGuard c now).expired now' = s.expired now' := rfl

@[simp] theorem writeGuard_combined (s : State) (c : Bool) (now : Millis) (k r : Bool) :
    (s.writeGuard c now).combined k r = s.combined k r := rfl

/-! ### The sequencer -/

/-- `t` has the registers of `s` that the sequencer never writes. -/
structure KeepsOutsideSequencer (s t : State) : Prop where
  gHold : t.gHold = s.gHold
  gLast : t.gLast = s.gLast
  gFlag : t.gFlag = s.gFlag
  cfgImg : t.cfgImg = s.cfgImg
  persistReq : t.persistReq = s.persistReq
  cfgDefaulted : t.cfgDefaulted = s.cfgDefaulted
  cfgRejected : t.cfgRejected = s.cfgRejected
  obsCombined : t.obsCombined = s.obsCombined
  obsKey : t.obsKey = s.obsKey
  ports : t.ports = s.ports
  upcoming : t.upcoming = s.upcoming

theorem keepsOutsideSequencer_refl (s : State) : KeepsOutsideSequencer s s := by
  constructor <;> rfl

theorem advance_cases (s : State) (i : Fin 4) (now : Millis) :
    (∃ j : Fin 4, j.val = i.val + 1 ∧ s.advance i now = s.enterT j now) ∨
      (i = 3 ∧ s.advance i now = s.enterTx) := by
  fin_cases i
  · exact .inl ⟨1, rfl, rfl⟩
  · exact .inl ⟨2, rfl, rfl⟩
  · exact .inl ⟨3, rfl, rfl⟩
  · exact .inr ⟨rfl, rfl⟩

theorem release_cases (s : State) (i : Fin 4) (now : Millis) :
    (∃ j : Fin 4, i.val = j.val + 1 ∧
        s.release i now = (s.driveRelay i (s.cfgImg.pol i)).enterR j now) ∨
      (i = 0 ∧ s.release i now = { s.driveRelay i (s.cfgImg.pol i) with seq := .rx }) := by
  fin_cases i
  · exact .inr ⟨rfl, rfl⟩
  · exact .inl ⟨0, rfl, rfl⟩
  · exact .inl ⟨1, rfl, rfl⟩
  · exact .inl ⟨2, rfl, rfl⟩

/-- Everything the sequencer can do in one TICK (44_sequencer.md R211). -/
inductive SeqCase (s : State) (key : Bool) (now : Millis) (t : State) : Prop where
  | idle (hs : s.seq = .rx) (hk : key = false) (ht : t = s.redriveIdle)
  | keyed (hs : s.seq = .rx) (hk : key = true) (ht : t = s.enterT 0 now)
  | reverse (i : Fin 4) (hs : s.seq = .txStep i) (hk : key = false) (ht : t = s.enterR i now)
  | forward (i j : Fin 4) (hs : s.seq = .txStep i) (hk : key = true) (he : s.expired now = true)
      (hj : j.val = i.val + 1) (ht : t = s.enterT j now)
  | transmit (hs : s.seq = .txStep 3) (hk : key = true) (he : s.expired now = true) (ht : t = s.enterTx)
  | holdT (i : Fin 4) (hs : s.seq = .txStep i) (hk : key = true) (he : s.expired now = false) (ht : t = s)
  | unkeyed (hs : s.seq = .tx) (hk : key = false) (ht : t = ({ s with cts := false } : State).enterR 3 now)
  | holdTx (hs : s.seq = .tx) (hk : key = true) (ht : t = s)
  | rekeyed (i : Fin 4) (hs : s.seq = .rxStep i) (hk : key = true) (ht : t = s.enterT i now)
  | back (i j : Fin 4) (hs : s.seq = .rxStep i) (hk : key = false) (he : s.expired now = true)
      (hj : i.val = j.val + 1) (ht : t = (s.driveRelay i (s.cfgImg.pol i)).enterR j now)
  | home (hs : s.seq = .rxStep 0) (hk : key = false) (he : s.expired now = true)
      (ht : t = { s.driveRelay 0 (s.cfgImg.pol 0) with seq := .rx })
  | holdR (i : Fin 4) (hs : s.seq = .rxStep i) (hk : key = false) (he : s.expired now = false) (ht : t = s)
  | absorbed (c : Fin 6) (hs : s.seq = .unused c) (ht : t = s)

theorem sequence_cases (s : State) (key : Bool) (now : Millis) : SeqCase s key now (s.sequence key now) := by
  unfold State.sequence
  cases hs : s.seq with
  | rx =>
    cases key with
    | false => exact .idle hs rfl rfl
    | true => exact .keyed hs rfl rfl
  | txStep i =>
    cases key with
    | false => exact .reverse i hs rfl rfl
    | true =>
      cases he : s.expired now with
      | false => exact .holdT i hs rfl he (by simp [State.seqTxStep, he])
      | true =>
        rcases advance_cases s i now with ⟨j, hj, h⟩ | ⟨rfl, h⟩
        · exact .forward i j hs rfl he hj (by simp [State.seqTxStep, he, h])
        · exact .transmit hs rfl he (by simp [State.seqTxStep, he, h])
  | tx =>
    cases key with
    | false => exact .unkeyed hs rfl rfl
    | true => exact .holdTx hs rfl rfl
  | rxStep i =>
    cases key with
    | true => exact .rekeyed i hs rfl rfl
    | false =>
      cases he : s.expired now with
      | false => exact .holdR i hs rfl he (by simp [State.seqRxStep, he])
      | true =>
        rcases release_cases s i now with ⟨j, hj, h⟩ | ⟨rfl, h⟩
        · exact .back i j hs rfl he hj (by simp [State.seqRxStep, he, h])
        · exact .home hs rfl he (by simp [State.seqRxStep, he, h])
  | unused c => exact .absorbed c hs rfl

theorem sequence_frame (s : State) (key : Bool) (now : Millis) :
    KeepsOutsideSequencer s (s.sequence key now) := by
  cases sequence_cases s key now <;> rename_i ht <;> rw [ht] <;> constructor <;> rfl

end Sys2Proof.Machine
end

