-- ==== Sys2Proof/Laws/Cycle.lean ====
section
/-! SUPPORT. What a TICK, a line of operations and a step give, said once. -/

namespace Sys2Proof.Machine

/-- The sequencer neither reads nor writes what the guard's update writes. -/
theorem sequence_writeGuard (s : State) (c key : Bool) (now : Millis) :
    (s.writeGuard c now).sequence key now =
      { s.sequence key now with
        gHold := s.guardHoldNext c now
        gFlag := s.guardFlagNext c now
        gLast := now
        obsCombined := c
        obsKey := gatedKey c (s.guardFlagNext c now) } := by
  have hseq : (s.writeGuard c now).seq = s.seq := rfl
  have hexp : (s.writeGuard c now).expired now = s.expired now := rfl
  unfold State.sequence
  rw [hseq]
  cases s.seq with
  | rx => simp only [State.seqRx]; split <;> rfl
  | txStep i =>
    simp only [State.seqTxStep, hexp]
    split
    · rfl
    · split
      · fin_cases i <;> rfl
      · rfl
  | tx => simp only [State.seqTx]; split <;> rfl
  | rxStep i =>
    simp only [State.seqRxStep, hexp]
    split
    · rfl
    · split
      · fin_cases i <;> rfl
      · rfl
  | unused c => rfl

/-- The state after a TICK: the sequencer's result with the guard's and the observation registers. -/
def tickResult (keyN rtsN : Bool) (now : Millis) (s : State) : State :=
  let combined := s.combined keyN rtsN
  let key := gatedKey combined (s.guardFlagNext combined now)
  { s.sequence key now with
    gHold := s.guardHoldNext combined now
    gFlag := s.guardFlagNext combined now
    gLast := now
    obsCombined := combined
    obsKey := key }

theorem exec_tick (keyN rtsN : Bool) (now : Millis) (s : State) :
    exec (.tick keyN rtsN now) s = .next (tickResult keyN rtsN now s) := by
  simp only [exec, execTick, sequence_writeGuard, tickResult]

/-- What the guard's new flag is, with a Timeout in force. -/
theorem guardFlagNext_iff (s : State) (c : Bool) (now : Millis) :
    s.guardFlagNext c now = true ↔
      s.cfgImg.tmo ≠ 0 ∧ c = true ∧ (s.gFlag = true ∨ s.cfgImg.tmoMs.toNat < (s.guardHoldNext c now).toNat) := by
  unfold State.guardFlagNext
  by_cases h : s.cfgImg.tmo = 0
  · simp [h]
  · cases c <;> simp

/-- A replacement either takes the whole image or sets the refusal bit, and writes nothing else. -/
theorem replaceConfig_cases (s : State) (img : Image) :
    (img.valid = true ∧ s.replaceConfig img = { s with cfgImg := img, cfgRejected := false }) ∨
      (img.valid = false ∧ s.replaceConfig img = { s with cfgRejected := true }) := by
  unfold State.replaceConfig
  cases h : img.valid
  · exact .inr ⟨rfl, rfl⟩
  · exact .inl ⟨rfl, rfl⟩

/-- Every operation completes. -/
theorem exec_completes (i : Instr) (s : State) : ∃ t, exec i s = .next t := by
  cases i <;> exact ⟨_, rfl⟩

/-- Every line completes. -/
theorem performAll_completes (l : List Instr) (s : State) : ∃ t, performAll l s = .next t := by
  induction l generalizing s with
  | nil => exact ⟨s, rfl⟩
  | cons i l ih =>
    obtain ⟨t, ht⟩ := exec_completes i s
    obtain ⟨u, hu⟩ := ih t
    exact ⟨u, by simp only [performAll, ht, hu]⟩

end Sys2Proof.Machine
end

