-- ==== Sys2Proof/Laws/Decode.lean ====
section
/-! SUPPORT. Bits and bytes of the ports: what a byte, a field and a control bit are. -/

namespace Sys2Proof

/-- Bit `i` of packed bytes is bit `i mod 8` of byte `i / 8`; beyond the last byte it is 0. -/
theorem packBytes_getLsbD (bs : List Byte) (i : Nat) (hi : i < 144) :
    (packBytes bs).getLsbD i = ((bs[i / 8]?).getD 0).getLsbD (i % 8) := by
  induction bs generalizing i with
  | nil => simp [packBytes]
  | cons b bs ih =>
    simp only [packBytes, BitVec.getLsbD_or, BitVec.getLsbD_shiftLeft, BitVec.getLsbD_setWidth, hi]
    by_cases h : i < 8
    · have h1 : i / 8 = 0 := by omega
      have h2 : i % 8 = i := by omega
      simp [h, h1, h2]
    · have h1 : i / 8 = (i - 8) / 8 + 1 := by omega
      have h2 : i % 8 = (i - 8) % 8 := by omega
      have h3 : b.getLsbD i = false := BitVec.getLsbD_of_ge b i (by omega)
      simp [h, h1, h2, h3, ih (i - 8) (by omega)]

theorem portByte_packBytes (bs : List Byte) (k : Nat) (hk : k < 18) :
    portByte (packBytes bs) k = (bs[k]?).getD 0 := by
  apply BitVec.eq_of_getLsbD_eq
  intro i hi
  have h1 : (8 * k + i) / 8 = k := by omega
  have h2 : (8 * k + i) % 8 = i := by omega
  rw [portByte, BitVec.getLsbD_extractLsb', packBytes_getLsbD _ _ (by omega), h1, h2]
  simp [hi]

/-- A 2-byte field as a number (20_memory.md R63). -/
theorem littleEndian_toNat (lo hi : Byte) : (littleEndian lo hi).toNat = lo.toNat + 256 * hi.toNat := by
  have h1 := lo.isLt
  have h2 := hi.isLt
  have h : lo.setWidth 16 ||| (hi.setWidth 16 <<< 8) = hi ++ lo := by
    apply BitVec.eq_of_getLsbD_eq
    intro i hi'
    simp only [BitVec.getLsbD_or, BitVec.getLsbD_setWidth, BitVec.getLsbD_shiftLeft, BitVec.getLsbD_append]
    by_cases h : i < 8
    · simp [h]; omega
    · have h0 := BitVec.getLsbD_of_ge lo i (by omega)
      have h8 : i - 8 < 16 := by omega
      simp only [h, h0, hi', h8, decide_true, decide_false, Bool.true_and, Bool.not_false, Bool.false_or,
        Bool.and_false, if_false]
  rw [littleEndian, h, BitVec.toNat_append, ← Nat.shiftLeft_add_eq_or_of_lt h1, Nat.shiftLeft_eq]
  omega

/-- `ctl = 0000` is the vector with no bit set (30_encoding.md R81). -/
theorem ctl_eq_zero_iff (p : Ports) :
    p.ctl = 0#4 ↔ p.rst = false ∧ p.tick = false ∧ p.cfgWr = false ∧ p.persistAck = false := by
  obtain ⟨c, _, _, _, _⟩ := p
  simp only [Ports.rst, Ports.tick, Ports.cfgWr, Ports.persistAck]
  revert c
  decide

end Sys2Proof
end

