-- ==== Sys2Proof/Laws/PerInstr.lean ====
section
/-! SUPPORT. Statements about each operation as syntax, one lemma per constructor. -/

namespace Sys2Proof.Laws

/-- A cycle performs an operation exactly when its control vector matches the operation's row of the table:
`ctl & mask == match` (30_encoding.md R82). -/
def RowSelects.Statement (i : Instr) : Prop :=
  ∀ p : Ports, p.ctl &&& rowMask i = rowMatch i ↔ ∃ j ∈ decode p, j.slot = i.slot

/-- The slots of a cycle's operations, by the four control bits. -/
def slotsOf (rst tick cfgWr persistAck : Bool) : List Nat :=
  if rst then [0]
  else if !tick && !cfgWr && !persistAck then [4]
  else (if tick then [1] else []) ++ (if cfgWr then [2] else []) ++ (if persistAck then [3] else [])

theorem slots_of_decode (p : Ports) :
    (decode p).map Instr.slot = slotsOf p.rst p.tick p.cfgWr p.persistAck := by
  have h := ctl_eq_zero_iff p
  unfold decode Ports.tickOps Ports.cfgOps Ports.ackOps slotsOf
  cases h1 : p.rst <;> cases h2 : p.tick <;> cases h3 : p.cfgWr <;> cases h4 : p.persistAck <;>
    simp_all [Instr.slot]

theorem rowSelects_of_bits (i : Instr)
    (h : ∀ c : BitVec 4, c &&& rowMask i = rowMatch i ↔
      i.slot ∈ slotsOf (c.getLsbD 3) (c.getLsbD 2) (c.getLsbD 1) (c.getLsbD 0)) :
    RowSelects.Statement i := by
  intro p
  have hs : (decode p).map Instr.slot =
      slotsOf (p.ctl.getLsbD 3) (p.ctl.getLsbD 2) (p.ctl.getLsbD 1) (p.ctl.getLsbD 0) := slots_of_decode p
  rw [h p.ctl, ← hs, List.mem_map]

theorem RowSelects.reset (img : Image) (now : Millis) : RowSelects.Statement (.reset img now) :=
  rowSelects_of_bits _ (by simp only [rowMask, rowMatch, Instr.slot]; decide)

theorem RowSelects.tick (keyN rtsN : Bool) (now : Millis) : RowSelects.Statement (.tick keyN rtsN now) :=
  rowSelects_of_bits _ (by simp only [rowMask, rowMatch, Instr.slot]; decide)

theorem RowSelects.cfgWrite (img : Image) : RowSelects.Statement (.cfgWrite img) :=
  rowSelects_of_bits _ (by simp only [rowMask, rowMatch, Instr.slot]; decide)

theorem RowSelects.persistAck : RowSelects.Statement .persistAck :=
  rowSelects_of_bits _ (by simp only [rowMask, rowMatch, Instr.slot]; decide)

theorem RowSelects.nop : RowSelects.Statement .nop :=
  rowSelects_of_bits _ (by simp only [rowMask, rowMatch, Instr.slot]; decide)

end Sys2Proof.Laws
end

