-- ==== Sys2Proof/Tests/Slice0.lean ====
section
/-! SUPPORT. The model's own tests. Expected values come from spec/95_test_vectors.md, by the id named; images are those
of its section 0. The theorems named witness_<statement> meet the hypotheses of that statement, clause by clause. -/

namespace Sys2Proof.Machine.Tests

-- One theorem after another: run all at once, these kernel evaluations hold a thread (and its stack) each.
set_option Elab.async false

/-! ### Small states -/

/-- DEFAULT_IMG, written out (95 section 0). -/
def imgDefault : Image :=
  ⟨⟨0x00, 0x32, 0x32⟩, ⟨0x00, 0x32, 0x32⟩, ⟨0x00, 0x32, 0x32⟩, ⟨0x00, 0x32, 0x32⟩, 0x00, 0x01, 0x78, 0x00, 0xF3, 0x92⟩
/-- IMG_A (95 section 0): pol 0,1,0,1, txd 20, rxd 30, RTS and CTS enabled, Timeout 0. -/
def imgA : Image :=
  ⟨⟨0x00, 0x14, 0x1E⟩, ⟨0x01, 0x14, 0x1E⟩, ⟨0x00, 0x14, 0x1E⟩, ⟨0x01, 0x14, 0x1E⟩, 0x01, 0x01, 0x00, 0x00, 0x72, 0x12⟩
/-- IMG_B (95 section 0): pol all Open, txd 50, rxd 75, Timeout 5. -/
def imgB : Image :=
  ⟨⟨0x00, 0x32, 0x4B⟩, ⟨0x00, 0x32, 0x4B⟩, ⟨0x00, 0x32, 0x4B⟩, ⟨0x00, 0x32, 0x4B⟩, 0x00, 0x01, 0x05, 0x00, 0x74, 0xA2⟩
/-- IMG_BAD (95 section 0): DEFAULT_IMG with byte 17 changed. -/
def imgBad : Image := { imgDefault with checksumHi := 0x93 }

/-- The state an outcome gives; the reset state where it gives none. -/
def after (o : Host.Outcome State Fault Refusal) : State :=
  match o with
  | .next t => t
  | .fault _ => State.reset
  | .refused _ => State.reset

/-- The outcome is this very next state. -/
def answers (o : Host.Outcome State Fault Refusal) (t : State) : Bool :=
  match o with
  | .next u => u == t
  | .fault _ => false
  | .refused _ => false

/-- A state of the sequencer under an image, all else as after reset. -/
def at_ (q : Seq) (img : Image) : State := { State.reset with seq := q, cfgImg := img }

/-- The same with a set timeout flag. -/
def cut (q : Seq) (img : Image) : State := { at_ q img with gFlag := true }

/-- The registers of the rows Q3 to Q20 of 95 section 2.7, under IMG_A. -/
def row (q : Seq) (relay : BitVec 4) (cts : Bool) (start : Millis) (delay : Byte) : State :=
  { at_ q imgA with relay := relay, cts := cts, tmrStart := start, tmrDelay := delay }

/-- The samples of a cycle with `ctl`, an image and a time, both raw lines released. -/
def wires (ctl : BitVec 4) (img : Image) (now : Millis) : Ports := ⟨ctl, img.toBits, true, true, now⟩

/-! ### Well-formedness: each check refuses its ill-formed line -/

theorem test_wf_refuses_the_empty_line : lineNotEmpty [] = false ∧ lineWellFormed [] = false := by decide

theorem test_wf_refuses_reset_with_a_companion :
    lineKeepsAlone [.reset imgA 0, .persistAck] = false ∧ lineWellFormed [.reset imgA 0, .persistAck] = false ∧
    lineWellFormed [.nop, .persistAck] = false := by decide +kernel

theorem test_wf_refuses_the_wrong_order_and_repeats :
    lineInOrder [.cfgWrite imgA, .tick true true 0] = false ∧
    lineWellFormed [.cfgWrite imgA, .tick true true 0] = false ∧
    lineWellFormed [.tick true true 0, .tick true true 0] = false := by decide +kernel

theorem test_wf_accepts_the_fullest_cycle :
    lineWellFormed [.tick true true 0, .cfgWrite imgA, .persistAck] = true := by decide +kernel

/-! ### Decoding: the words of 30_encoding.md R80 to R82, R90 and 10_state.md R40, written out -/

/-- IMG_A on the 144 wires: byte 17 at the top, byte 0 at the bottom. -/
def imgAWires : BitVec 144 := 0x1272_0000_0101_1E1401_1E1400_1E1401_1E1400#144

theorem test_decode_reset : decode ⟨0b1000#4, imgAWires, true, true, 200#32⟩ = [.reset imgA 200] := by decide +kernel
/-- Bits 2..0 are ignored during RESET (30_encoding.md R83). -/
theorem test_decode_reset_ignores_low_bits : decode ⟨0b1111#4, imgAWires, true, true, 200#32⟩ = [.reset imgA 200] := by
  decide +kernel
/-- The KEY line: key_n = 0, rts_n = 1 (30_encoding.md R101). -/
theorem test_decode_tick : decode ⟨0b0100#4, imgAWires, false, true, 10#32⟩ = [.tick false true 10] := by decide +kernel
theorem test_decode_cfg_write : decode ⟨0b0010#4, imgAWires, true, true, 0⟩ = [.cfgWrite imgA] := by decide +kernel
theorem test_decode_persist_ack : decode ⟨0b0001#4, imgAWires, true, true, 0⟩ = [.persistAck] := by decide +kernel
theorem test_decode_nop : decode ⟨0b0000#4, imgAWires, true, true, 0⟩ = [.nop] := by decide +kernel
/-- Program D line 4. -/
theorem test_decode_tick_with_cfg_write :
    decode ⟨0b0110#4, imgAWires, false, true, 1060#32⟩ = [.tick false true 1060, .cfgWrite imgA] := by decide +kernel
theorem test_decode_all_three :
    decode ⟨0b0111#4, imgAWires, false, true, 7#32⟩ = [.tick false true 7, .cfgWrite imgA, .persistAck] := by
  decide +kernel

/-- An image of 18 zero bytes: what the operand ports at zero carry. -/
def imgZero : Image := ⟨⟨0, 0, 0⟩, ⟨0, 0, 0⟩, ⟨0, 0, 0⟩, ⟨0, 0, 0⟩, 0, 0, 0, 0, 0, 0⟩

/-- The match words of spec/opcode_table.json. -/
theorem test_table_words :
    decodeTableWord 8 8 = some (.reset imgZero 0) ∧ decodeTableWord 8 4 = some (.tick false false 0) ∧
    decodeTableWord 8 2 = some (.cfgWrite imgZero) ∧ decodeTableWord 8 1 = some .persistAck ∧
    decodeTableWord 8 0 = some .nop := by decide +kernel

theorem test_table_word_above_four_bits_is_refused :
    decodeTableWord 8 16 = none ∧ decodeWord 8 16 = .error (.notAControlVector 16) := by decide +kernel

/-- A word put on the wires is the next thing the step performs. -/
theorem test_fetch_word :
    decode (State.reset.withFetchWord 8 8).ports = [.reset imgZero 0] ∧
    (after (step (State.reset.withFetchWord 8 4))).obsCombined = true ∧
    answers (step (State.reset.withFetchWord 8 0)) (State.reset.withFetchWord 8 0) = true := by decide +kernel

theorem test_encode_a_line :
    encode [.tick false true 1060, .cfgWrite imgA] = ⟨0b0110#4, imgAWires, false, true, 1060#32⟩ := by decide +kernel

/-- O15: `ACK | CFG`, in either order, is the vector 0011; of the two lines the decoder answers the one in order. -/
theorem test_encode_in_any_order :
    encode [.persistAck, .cfgWrite imgA] = ⟨0b0011#4, imgAWires, false, false, 0#32⟩ ∧
    encode [.cfgWrite imgA, .persistAck] = encode [.persistAck, .cfgWrite imgA] ∧
    decode (encode [.persistAck, .cfgWrite imgA]) = [.cfgWrite imgA, .persistAck] := by decide +kernel

/-! ### The state after reset (70_reset_and_hazards.md R320) and the images of 95 section 0 -/

theorem test_reset_state :
    State.reset.seq = .rx ∧ State.reset.relay = 0b0000#4 ∧ State.reset.cts = false ∧ State.reset.tmrStart = 0 ∧
    State.reset.tmrDelay = 0 ∧ State.reset.gHold = 0 ∧ State.reset.gFlag = false ∧ State.reset.cfgImg = imgDefault ∧
    State.reset.cfgRejected = false ∧ State.reset.obsKey = false ∧ State.reset.obsCombined = false := by decide +kernel

theorem test_images_valid :
    imgDefault.valid = true ∧ imgA.valid = true ∧ imgB.valid = true ∧ imgBad.valid = false := by decide +kernel

/-- Vectors V6, V9 and V11 of 95 section 2.2. -/
theorem test_validator_vectors :
    ({ imgZero with checksumLo := 0xBE, checksumHi := 0xF0 } : Image).valid = true ∧ imgZero.valid = false ∧
    ({ imgDefault with step0 := ⟨0x02, 0x32, 0x32⟩, checksumLo := 0x72, checksumHi := 0xF3 } : Image).valid = true ∧
    ({ imgDefault with checksumLo := 0x92, checksumHi := 0xF3 } : Image).valid = false := by decide +kernel

/-- Vector F7: Timeout bytes 00 01 are 256 s. -/
theorem test_timeout_is_little_endian :
    ({ imgDefault with timeoutLo := 0x00, timeoutHi := 0x01 } : Image).tmo = 256#16 := by decide +kernel

/-- The arithmetic of time at the default width (vector T4, and G8's saturation) and at a 16-bit clock, by R7's rule. -/
theorem test_time_arithmetic_at_two_widths :
    timeDiff 0x00000010#32 0xFFFFFFF0#32 = 32#32 ∧ saturate 32 4400000000 = 4294967295#32 ∧
    timeDiff 0x0010#16 0xFFF0#16 = 32#16 ∧ saturate 16 70000 = 65535#16 := by decide +kernel

/-! ### One step of each operation -/

/-- O2: RESET with a corrupt image at t = 1000 loads the default and asks for it to be persisted. -/
theorem test_reset_substitutes :
    let t := after (step { row .tx 0b0101 true 500 20 with ports := wires 0b1000 imgBad 1000 })
    t.cfgImg = imgDefault ∧ t.persistReq = true ∧ t.cfgDefaulted = true ∧ t.gLast = 1000 ∧ t.relay = 0b0000#4 := by
  decide +kernel

/-- O13: RESET out of Tx is abrupt. -/
theorem test_reset_is_abrupt :
    let t := after (step { row .tx 0b0101 true 500 20 with ports := wires 0b1000 imgA 200 })
    t.seq = .rx ∧ t.relay = 0b1010#4 ∧ t.cts = false ∧ t.cfgImg = imgA ∧ t.persistReq = false ∧ t.gLast = 200 := by
  decide +kernel

/-- Q7: S3T to S4T drives relay 3 to the opposite of its idle position and arms its TxDelay. -/
theorem test_tick_advances :
    let t := after (exec (.tick false true 530) (row (.txStep 2) 0b1101 false 500 20))
    t.seq = .txStep 3 ∧ t.relay = 0b0101#4 ∧ t.cts = false ∧ t.tmrStart = 530 ∧ t.tmrDelay = 20 := by decide +kernel

/-- G4: 1 ms past the threshold sets the flag and gates the key in the same tick, so Tx is left (R196, R217). -/
theorem test_tick_cuts_off :
    let t := after (exec (.tick false true 6001) { at_ .tx imgB with gHold := 5000, gLast := 6000, cts := true })
    t.gHold = 5001 ∧ t.gLast = 6001 ∧ t.gFlag = true ∧ t.obsKey = false ∧ t.obsCombined = true ∧
    t.seq = .rxStep 3 ∧ t.cts = false ∧ t.tmrDelay = 75 := by decide +kernel

/-- O8: a corrupt replacement is refused. -/
theorem test_cfg_write_refuses :
    answers (exec (.cfgWrite imgBad) State.reset) { State.reset with cfgRejected := true } = true := by decide +kernel

/-- O10: a replacement takes the whole image and moves no relay. -/
theorem test_cfg_write_replaces :
    answers (exec (.cfgWrite imgA) State.reset) { State.reset with cfgImg := imgA } = true := by decide +kernel

/-- O9: the acknowledgement clears the request and keeps `cfg_defaulted`. -/
theorem test_persist_ack :
    let t := after (exec .persistAck { State.reset with persistReq := true, cfgDefaulted := true })
    t.persistReq = false ∧ t.cfgDefaulted = true := by decide +kernel

/-- O12. -/
theorem test_nop : answers (step State.reset) State.reset = true := by decide +kernel

/-- Program D line 4: the TICK runs on the default image, the replacement is active after it. -/
theorem test_tick_with_cfg_write :
    let s := { row (.txStep 0) 0b0001 false 1010 50 with
      cfgImg := imgDefault, gLast := 1020, gHold := 20, ports := ⟨0b0110#4, imgA.toBits, false, true, 1060⟩ }
    let t := after (step s)
    t.seq = .txStep 1 ∧ t.relay = 0b0011#4 ∧ t.tmrDelay = 50 ∧ t.gHold = 60 ∧ t.cfgImg = imgA := by decide +kernel

/-- The output ports: `state` is the code of S4R, `cfg_in_valid` follows `cfg_in`. -/
theorem test_outputs :
    let o := ({ at_ (.rxStep 3) imgA with ports := wires 0 imgBad 0 } : State).outputs
    o.state = 6#4 ∧ o.persistImg = imgAWires ∧ o.cfgInValid = false := by decide +kernel

/-! ### Witnesses: hypotheses that are met, clause by clause -/

theorem witness_WellFormedLinesDecodeBack :
    lineWellFormed [.reset imgA 200] = true ∧ lineWellFormed [.nop] = true ∧
    lineWellFormed [.tick false true 7, .cfgWrite imgBad, .persistAck] = true := by decide +kernel

theorem witness_DecodedPortsEncodeBack :
    (wires 0b1111 imgA 3).rst = true ∧ (wires 0b0010 imgA 3).cfgWr = true ∧
    ((wires 0b0111 imgA 3).rst = false ∧ (wires 0b0111 imgA 3).tick = true) := by decide +kernel

theorem witness_ImagePortsCarryEveryByte : (0 < 18) ∧ (17 < 18) ∧ imgA.bytes[17]? = some 0x12#8 := by decide +kernel

theorem witness_ImageFieldsSitAtTheirOffsets : (0 < 18) ∧ (17 < 18) ∧ imgB.rtsEn = false ∧ imgA.rtsEn = true := by
  decide +kernel

/-- Ranges that just fit and just do not: the first byte, the last, the whole record, none at its end. -/
theorem witness_RecordReadsGiveBytesInOrder :
    (0 + 18 ≤ 18 ∧ imgA.memRead 0 18 = some imgA.bytes) ∧ (17 + 1 ≤ 18 ∧ imgA.memRead 17 1 = some [0x12#8]) ∧
    (18 + 0 ≤ 18 ∧ imgA.memRead 18 0 = some []) ∧ (18 < 18 + 1 ∧ imgA.memRead 18 1 = none) ∧ (18 < 0 + 19) := by
  decide +kernel

theorem witness_SingleByteCorruptionIsDetected :
    imgDefault.valid = true ∧ imgDefault ≠ imgBad ∧ ∀ j, j ≠ 17 → imgDefault.bytes[j]? = imgBad.bytes[j]? := by
  refine ⟨by decide +kernel, by decide +kernel, fun j hj => ?_⟩
  by_cases h : j < 18
  · interval_cases j <;> first | rfl | exact absurd rfl hj
  · have h1 : imgDefault.bytes.length ≤ j := by simp [Image.bytes, StepImage.bytes]; omega
    have h2 : imgBad.bytes.length ≤ j := by simp [Image.bytes, StepImage.bytes]; omega
    rw [List.getElem?_eq_none h1, List.getElem?_eq_none h2]

theorem witness_NopWritesNothing : ∀ q ∈ [wires 0b0000 imgA 1, wires 0b0000 imgBad 2], q.ctl = 0#4 := by decide +kernel

theorem witness_PersistAckClearsTheRequestOnly :
    State.reset.persistReq = false ∧ ({ State.reset with persistReq := true } : State).persistReq = true := by
  decide +kernel

theorem witness_CfgWriteReplacesOrRefuses : imgA.valid = true ∧ imgBad.valid = false := by decide +kernel

theorem witness_ResetWritesEveryRegister : imgB.valid = true ∧ imgBad.valid = false := by decide +kernel

theorem witness_HeldResetForgetsAllButItsLastCycle :
    (∀ q ∈ [wires 0b1000 imgA 1, wires 0b1011 imgBad 2], q.rst = true) ∧ (wires 0b1000 imgB 3).rst = true := by
  decide +kernel

theorem witness_TickCombinesTheKeyLines : imgA.tmo = 0 ∧ imgB.tmo ≠ 0 := by decide +kernel

/-- Each clause of the guard: released; held; inert; held with a Timeout, at the threshold and 1 ms past it (G3, G4). -/
theorem witness_TickUpdatesTheGuard :
    (after (exec (.tick true true 1010) (cut .rx imgB))).obsCombined = false ∧
    ((at_ .rx imgA).cfgImg.tmo = 0 ∧ (after (exec (.tick false true 9) (at_ .rx imgA))).obsCombined = true) ∧
    ((at_ .rx imgB).cfgImg.tmo ≠ 0 ∧ (after (exec (.tick false true 5000) (at_ .rx imgB))).obsCombined = true ∧
      (after (exec (.tick false true 5000) (at_ .rx imgB))).gFlag = false ∧
      (after (exec (.tick false true 5001) (at_ .rx imgB))).gFlag = true) := by decide +kernel

theorem witness_RtsCountsOnlyWhenEnabled : State.reset.cfgImg.rtsEn = false := by decide +kernel

/-- Ticks at t = 6001 that end with the flag set: from Tx, S4T and Rx; from S4R 1 ms short of its dwell and exactly at it
(i = 3, j = 2); from S1R exactly at it (i = 0); from the unused codes 10 and 15. -/
theorem witness_TimeoutCutsTheKeyInItsOwnTick :
    let flag (s : State) : Bool := (after (exec (.tick false true 6001) s)).gFlag
    let timed (i : Fin 4) (start : Millis) : State := { at_ (.rxStep i) imgB with tmrStart := start, tmrDelay := 75 }
    flag (at_ .tx imgB) = true ∧ flag (at_ (.txStep 3) imgB) = true ∧ flag (at_ .rx imgB) = true ∧
    (flag (timed 3 5927) = true ∧ (timed 3 5927).expired 6001 = false) ∧
    (flag (timed 3 5926) = true ∧ (timed 3 5926).expired 6001 = true ∧ (3 : Fin 4).val = (2 : Fin 4).val + 1) ∧
    (flag (timed 0 5926) = true ∧ (timed 0 5926).expired 6001 = true) ∧
    flag (at_ (.unused 0) imgB) = true ∧ flag (at_ (.unused 5) imgB) = true := by decide +kernel

theorem witness_TickInRx :
    (at_ .rx imgA).seq = .rx ∧ (after (exec (.tick true true 500) (at_ .rx imgA))).obsKey = false ∧
    (after (exec (.tick false true 500) (at_ .rx imgA))).obsKey = true := by decide +kernel

/-- Q5, Q3 (1 ms short of the dwell), Q4 (exactly at it, i = 0, j = 1), Q7 (i = 2, j = 3) and Q8 (i = 3). -/
theorem witness_TickInTransmitStep :
    (after (exec (.tick true true 505) (row (.txStep 0) 0b1011 false 500 20))).obsKey = false ∧
    ((after (exec (.tick false true 519) (row (.txStep 0) 0b1011 false 500 20))).obsKey = true ∧
      (row (.txStep 0) 0b1011 false 500 20).expired 519 = false) ∧
    ((after (exec (.tick false true 520) (row (.txStep 0) 0b1011 false 500 20))).obsKey = true ∧
      (row (.txStep 0) 0b1011 false 500 20).expired 520 = true ∧ (1 : Fin 4).val = (0 : Fin 4).val + 1) ∧
    ((after (exec (.tick false true 530) (row (.txStep 2) 0b1101 false 500 20))).obsKey = true ∧
      (row (.txStep 2) 0b1101 false 500 20).expired 530 = true ∧ (3 : Fin 4).val = (2 : Fin 4).val + 1) ∧
    ((after (exec (.tick false true 520) (row (.txStep 3) 0b0101 false 500 20))).obsKey = true ∧
      (row (.txStep 3) 0b0101 false 500 20).expired 520 = true) := by decide +kernel

/-- Q9 and Q10. -/
theorem witness_TickInTx :
    (after (exec (.tick false true 9000) (row .tx 0b0101 true 500 20))).obsKey = true ∧
    (after (exec (.tick true true 9000) (row .tx 0b0101 true 500 20))).obsKey = false := by decide +kernel

/-- Q13, Q11 (1 ms short), Q12 (exactly at the dwell, i = 3, j = 2), Q14 (i = 1, j = 0) and Q15 (i = 0). -/
theorem witness_TickInReceiveStep :
    (after (exec (.tick false true 9010) (row (.rxStep 3) 0b0101 false 9000 30))).obsKey = true ∧
    ((after (exec (.tick true true 9029) (row (.rxStep 3) 0b0101 false 9000 30))).obsKey = false ∧
      (row (.rxStep 3) 0b0101 false 9000 30).expired 9029 = false) ∧
    ((after (exec (.tick true true 9030) (row (.rxStep 3) 0b0101 false 9000 30))).obsKey = false ∧
      (row (.rxStep 3) 0b0101 false 9000 30).expired 9030 = true ∧ (3 : Fin 4).val = (2 : Fin 4).val + 1) ∧
    ((after (exec (.tick true true 9030) (row (.rxStep 1) 0b1001 false 9000 30))).obsKey = false ∧
      (row (.rxStep 1) 0b1001 false 9000 30).expired 9030 = true ∧ (1 : Fin 4).val = (0 : Fin 4).val + 1) ∧
    ((after (exec (.tick true true 9040) (row (.rxStep 0) 0b1011 false 9000 30))).obsKey = false ∧
      (row (.rxStep 0) 0b1011 false 9000 30).expired 9040 = true) := by decide +kernel

/-- Q17 and Q18: codes 12 and 15. -/
theorem witness_TickInUnusedCode :
    (row (.unused 2) 0b0110 true 7 9).seq = .unused 2 ∧ (Seq.unused 2).code = 12#4 ∧
    (row (.unused 5) 0b0110 true 7 9).seq = .unused 5 ∧ (Seq.unused 5).code = 15#4 := by decide +kernel

/-- Each clause: into S1T, into S4R, staying, and into Tx. -/
theorem witness_TimerIsArmedExactlyAtEntry :
    (after (exec (.tick false true 500) (at_ .rx imgA))).seq = .txStep 0 ∧
    (after (exec (.tick true true 9000) (row .tx 0b0101 true 500 20))).seq = .rxStep 3 ∧
    (after (exec (.tick false true 9000) (row .tx 0b0101 true 500 20))).seq = .tx ∧
    (after (exec (.tick false true 520) (row (.txStep 3) 0b0101 false 500 20))).seq.transitional = false := by
  decide +kernel

/-- CTS moves (Q8, Q10); relay 2 is driven on entry to S3T (Q19) and released from S3R. -/
theorem witness_TickFrame :
    (after (exec (.tick false true 520) (row (.txStep 3) 0b0101 false 500 20))).cts ≠ false ∧
    (after (exec (.tick true true 9000) (row .tx 0b0101 true 500 20))).cts ≠ true ∧
    ((row (.txStep 1) 0b1001 false 500 20).seq ≠ .rx ∧
      (after (exec (.tick false true 520) (row (.txStep 1) 0b1001 false 500 20))).relay.getLsbD 2 ≠
        (row (.txStep 1) 0b1001 false 500 20).relay.getLsbD 2) ∧
    ((row (.rxStep 2) 0b1101 false 9000 30).seq ≠ .rx ∧
      (after (exec (.tick true true 9030) (row (.rxStep 2) 0b1101 false 9000 30))).relay.getLsbD 2 ≠
        (row (.rxStep 2) 0b1101 false 9000 30).relay.getLsbD 2) := by decide +kernel

/-- The true times 16 ms before and 16 ms after a wrap (T4), and the boundary: 2^32 - 1 ms apart and 2^32 ms apart. -/
theorem witness_ElapsedIsTrueBelowTheWrap :
    (4294967280 ≤ 4294967312 ∧
      (row .rx 0 false 0xFFFFFFF0 32).tmrStart = BitVec.ofNat 32 4294967280 ∧
      (row .rx 0 false 0xFFFFFFF0 32).expired (BitVec.ofNat 32 4294967312) = true) ∧
    (0 ≤ 4294967295 ∧ (row .rx 0 false 0 32).tmrStart = BitVec.ofNat 32 0 ∧ 4294967295 - 0 < 2 ^ 32) ∧
    (0 ≤ 4294967296 ∧ ¬ 4294967296 - 0 < 2 ^ 32) := by decide +kernel

/-- One operation alone; a cycle of two; nothing scheduled; one sample scheduled. -/
theorem witness_StepRunsTheDecodedOperations :
    ((Instr.tick true true 5).wellFormed = true ∧ decode (wires 0b0100 imgA 5) = [.tick true true 5] ∧
      ∃ t, exec (.tick true true 5) { State.reset with ports := wires 0b0100 imgA 5 } = .next t) ∧
    (∃ t, performAll (decode (wires 0b0011 imgA 5)) { State.reset with ports := wires 0b0011 imgA 5 } = .next t) ∧
    State.reset.upcoming = [] ∧
    ({ State.reset with upcoming := [wires 0 imgA 5] } : State).upcoming = wires 0 imgA 5 :: [] := by
  refine ⟨⟨by decide +kernel, by decide +kernel, _, rfl⟩, ?_, rfl, rfl⟩
  have h : decode (wires 0b0011 imgA 5) = [.cfgWrite imgA, .persistAck] := by decide +kernel
  rw [h]
  exact ⟨_, rfl⟩

/-- Two TICK samples that differ on `cfg_in`, and two CFG_WRITE samples that differ on the raw lines and the time. -/
theorem witness_UnsampledPortsHaveNoEffect :
    (let p := wires 0b0100 imgA 5
     let q := wires 0b0100 imgB 5
     p ≠ q ∧ p.ctl = q.ctl ∧ p.rst = false ∧ p.cfgWr = false ∧ p.keyN = q.keyN ∧ p.rtsN = q.rtsN ∧ p.nowMs = q.nowMs) ∧
    (let p : Ports := ⟨0b0010, imgA.toBits, true, true, 1⟩
     let q : Ports := ⟨0b0010, imgA.toBits, false, false, 2⟩
     p ≠ q ∧ p.ctl = q.ctl ∧ p.cfgIn = q.cfgIn ∧ p.rst = false ∧ p.tick = false) := by decide +kernel

theorem witness_TickNeverSeesItsOwnCyclesConfiguration :
    (wires 0b0110 imgA 1060).rst = false ∧ (wires 0b0110 imgA 1060).tick = true ∧
    (wires 0b0110 imgA 1060).cfgWr = true := by decide +kernel

/-- By a CFG_WRITE and by a RESET; then a TICK with PERSIST_ACK. -/
theorem witness_AcceptedImageIsOfferedUnchanged :
    (Image.ofBits (wires 0b0010 imgA 5).cfgIn).valid = true ∧ (wires 0b0010 imgA 5).cfgWr = true ∧
    (wires 0b1000 imgA 5).rst = true ∧ ∀ q ∈ [wires 0b0101 imgBad 6], keepsConfig q := by
  refine ⟨by decide +kernel, by decide +kernel, by decide +kernel, fun q hq => ?_⟩
  rw [List.mem_singleton.mp hq]
  exact ⟨by decide +kernel, by decide +kernel⟩

theorem witness_PersistRequestRisesAtSubstitutionOnly :
    (wires 0b1000 imgBad 5).rst = true ∧ (wires 0b0001 imgA 5).rst = false := by decide +kernel

/-- A cycle that would break the invariant if it accepted the image. -/
theorem witness_ConfigurationStaysValid :
    let s : State := { State.reset with ports := wires 0b0010 imgBad 5 }
    s.configValid ∧ answers (step s) { s with cfgRejected := true } = true :=
  ⟨show defaultImage.valid = true by decide +kernel, by decide +kernel⟩

/-- Tx under IMG_A with all relays transmit-active, a TICK that unkeys it and a CFG_WRITE that keeps the output fields. -/
theorem witness_OutputsFollowTheSequence :
    let s : State := { row .tx 0b0101 true 500 20 with ports := wires 0b0110 imgA 9000 }
    s.outputsFollow ∧ s.outputFieldsKept s.ports ∧ (after (step s)).seq = .rxStep 3 := by
  refine ⟨⟨?_, rfl⟩, ?_, by decide +kernel⟩
  · intro i
    fin_cases i <;> decide +kernel
  · intro _ _ _
    have h : Image.ofBits (wires 0b0110 imgA 9000).cfgIn = imgA := by decide +kernel
    simp only [h]
    exact ⟨fun _ => rfl, rfl⟩

/-- S4T one tick before Tx. -/
theorem witness_CtsIsAssertedOnlyInTx :
    let s : State := { row (.txStep 3) 0b0101 false 500 20 with ports := ⟨0b0100, 0, false, true, 520⟩ }
    (s.cts = true → s.seq = .tx) ∧ (after (step s)).cts = true ∧ (after (step s)).seq = .tx := by decide +kernel

/-- A held source whose flag sets in this cycle. -/
theorem witness_ObservationStaysInAgreement :
    let s : State := { at_ .tx imgB with
      obsCombined := true, obsKey := true, gHold := 5000, gLast := 6000, ports := ⟨0b0100, 0, false, true, 6001⟩ }
    s.observationAgrees ∧ (after (step s)).gFlag = true ∧ (after (step s)).obsKey = false := by
  refine ⟨⟨rfl, fun h => ?_⟩, by decide +kernel, by decide +kernel⟩
  exact absurd h (by decide)

/-- Tx one tick before the flag sets (G4). -/
theorem witness_TimeoutFlagNeverStandsInTx :
    let s : State := { at_ .tx imgB with gHold := 5000, gLast := 6000, ports := ⟨0b0100, 0, false, true, 6001⟩ }
    (s.gFlag = true → s.seq ≠ .tx) ∧ (after (step s)).gFlag = true := by decide +kernel

theorem witness_NamedStatesStayNamed :
    let s : State := { at_ (.rxStep 0) imgB with ports := wires 0b0100 imgB 76 }
    s.seq.named = true ∧ (after (step s)).seq = .rx := by decide +kernel

theorem witness_UnusedCodeIsLeftByResetOnly :
    (row (.unused 0) 0b0110 true 7 9).seq = .unused 0 ∧ (row (.unused 5) 0b0110 true 7 9).seq = .unused 5 ∧
    (∀ p ∈ [wires 0b0111 imgA 1, wires 0b0000 imgA 2], p.rst = false) ∧ (wires 0b1000 imgA 3).rst = true := by
  decide +kernel

/-- Tx under IMG_A (Timeout 0), keyed through 4 000 000 000 ms. -/
theorem witness_InertGuardNeverLeavesTx :
    let s := row .tx 0b0101 true 500 20
    s.seq = .tx ∧ s.cfgImg.tmo = 0 ∧
    ∀ p ∈ [tickAt false true 9000, tickAt true false 4000000000],
      keepsConfig p ∧ (p.tick = true → s.combined p.keyN p.rtsN = true) := by
  refine ⟨by decide +kernel, by decide +kernel, fun p hp => ?_⟩
  rcases List.mem_pair.mp hp with rfl | rfl <;>
    exact ⟨⟨by decide +kernel, by decide +kernel⟩, fun _ => by decide +kernel⟩

theorem witness_TimeoutFlagIsStickyWhileHeld :
    let s := cut .rx imgB
    s.gFlag = true ∧ s.obsKey = false ∧ s.cfgImg.tmo ≠ 0 ∧ s.seq = .rx ∧
    ∀ p ∈ [tickAt false true 10, tickAt false false 10],
      keepsConfig p ∧ (p.tick = true → s.combined p.keyN p.rtsN = true) := by
  refine ⟨by decide +kernel, by decide +kernel, by decide +kernel, by decide +kernel, fun p hp => ?_⟩
  rcases List.mem_pair.mp hp with rfl | rfl <;>
    exact ⟨⟨by decide +kernel, by decide +kernel⟩, fun _ => by decide +kernel⟩

/-- Each of the three events, and a held tick with a Timeout, which is none of them. -/
theorem witness_TimeoutFlagClearsOnlyOnThreeEvents :
    (cut .rx imgB).gFlag = true ∧ (after (drive [wires 0b1000 imgB 9] (cut .rx imgB))).gFlag = false ∧
    (after (drive [tickAt true false 9] (cut .rx imgB))).gFlag = false ∧
    (after (drive [tickAt false true 9] (cut .rx imgA))).gFlag = false ∧
    (after (drive [tickAt false true 9] (cut .rx imgB))).gFlag = true := by decide +kernel

/-- The run of 95 section 2.6: released at t = 0, held at 5000 (not exceeded) and at 5010 (exceeded), Timeout 5. -/
theorem witness_HoldDurationIsTheTrueHeldTime :
    let s := at_ .rx imgB
    s.gLast = BitVec.ofNat 32 0 ∧ s.gHold = 0 ∧ s.gFlag = false ∧ s.combined false true = true ∧
    timesAdvance [0, 5000, 5010] := by
  refine ⟨by decide +kernel, by decide +kernel, by decide +kernel, by decide +kernel, ?_⟩
  simp [timesAdvance, Config.clkW]

/-- Tx under IMG_B, the flag still clear and the hold at the threshold; the first tick comes 1 ms later (G4) and the next
four exactly 75 ms apart. -/
theorem witness_ForcedReleaseWalksTheChainToRx :
    let s : State := { at_ .tx imgB with
      relay := 0b1111, cts := true, obsCombined := true, obsKey := true, gHold := 5000, gLast := 6000 }
    s.gFlag = false ∧ s.seq = .tx ∧ s.combined false true = true ∧
    s.guardFlagNext true (BitVec.ofNat Config.clkW 6001) = true ∧
    timesAdvance [6001, 6076, 6151, 6226, 6301] ∧
    ∀ i : Fin 4, (s.cfgImg.rxd i).toNat ≤ 6076 - 6001 := by
  refine ⟨by decide +kernel, by decide +kernel, by decide +kernel, by decide +kernel, ?_, by decide +kernel⟩
  simp [timesAdvance, Config.clkW]

/-- Under IMG_A: five ticks exactly 20 ms apart, and the flag stays clear. -/
theorem witness_HeldKeyDrivesTheChainToTx :
    let s := at_ .rx imgA
    s.seq = .rx ∧ s.cts = false ∧ s.combined false true = true ∧ timesAdvance [10, 30, 50, 70, 90] ∧
    (∀ i : Fin 4, (s.cfgImg.txd i).toNat ≤ 30 - 10) ∧
    (after (drive ([10, 30, 50, 70, 90].map (tickAt false true)) s)).gFlag = false := by
  refine ⟨by decide +kernel, by decide +kernel, by decide +kernel, ?_, by decide +kernel, by decide +kernel⟩
  simp [timesAdvance, Config.clkW]

/-- Four ticks and a NOP, from Rx and from Tx without a RESET; and four ticks beside a RESET of vector 1100, which performs
no TICK. -/
theorem witness_FewerThanFiveTicksNeverCrossTheChain :
    ((wires 0 imgA 8 :: List.replicate 4 (tickAt false true 9)).filter performsTick).length = 4 ∧ 4 < 5 ∧
    ((wires 0b1100 imgA 8 :: List.replicate 4 (tickAt false true 9)).filter performsTick).length = 4 ∧
    (at_ .rx imgA).seq = .rx ∧ (at_ .tx imgA).seq = .tx ∧
    ∀ p ∈ (wires 0 imgA 8) :: List.replicate 4 (tickAt false true 9), p.rst = false := by decide +kernel

theorem witness_ReleasedTicksInRxKeepRelaysIdle :
    let s := row .rx 0b0000 true 0 0
    s.seq = .rx ∧ [tickAt true true 500] ≠ [] ∧
    ∀ p ∈ [tickAt true true 500], keepsConfig p ∧ p.tick = true ∧ s.combined p.keyN p.rtsN = false := by
  refine ⟨by decide +kernel, by simp, fun p hp => ?_⟩
  rw [List.mem_singleton.mp hp]
  exact ⟨⟨by decide +kernel, by decide +kernel⟩, by decide +kernel, by decide +kernel⟩

end Sys2Proof.Machine.Tests
end

section
/-! ### What one driven cycle does

A cycle with the samples `p` leaves the registers `State.commitTogether s p`, whatever stands on the ports before it;
`drive_cons` says so for a run, and the statements about single cycles follow from it. -/

namespace Sys2Proof.Machine

/-! #### The operations, one at a time -/

theorem exec_reset (img : Image) (now : Millis) (s : State) :
    exec (.reset img now) s = .next (s.resetRegisters img now) := rfl

theorem exec_cfgWrite (img : Image) (s : State) : exec (.cfgWrite img) s = .next (s.replaceConfig img) := rfl

theorem exec_persistAck (s : State) : exec .persistAck s = .next { s with persistReq := false } := rfl

theorem exec_nop (s : State) : exec .nop s = .next s := rfl

/-- A TICK writes ten registers; the sequencer's five come from its result, the others stay (45_operations.md R256). -/
theorem tickResult_eq (keyN rtsN : Bool) (now : Millis) (s : State) :
    tickResult keyN rtsN now s =
      let combined := s.combined keyN rtsN
      let key := gatedKey combined (s.guardFlagNext combined now)
      let q := s.sequence key now
      { s with
        seq := q.seq, tmrStart := q.tmrStart, tmrDelay := q.tmrDelay, relay := q.relay, cts := q.cts
        gHold := s.guardHoldNext combined now, gFlag := s.guardFlagNext combined now, gLast := now
        obsCombined := combined, obsKey := key } := by
  have hq := sequence_frame s (gatedKey (s.combined keyN rtsN) (s.guardFlagNext (s.combined keyN rtsN) now)) now
  simp only [tickResult, hq.cfgImg, hq.persistReq, hq.cfgDefaulted, hq.cfgRejected, hq.ports, hq.upcoming]

/-! #### A line of operations -/

theorem performAll_append {l : List Instr} {s t : State} (h : performAll l s = .next t) (l' : List Instr) :
    performAll (l ++ l') s = performAll l' t := by
  induction l generalizing s with
  | nil =>
    cases h
    rfl
  | cons i l ih =>
    obtain ⟨u, hu⟩ := exec_completes i s
    simp only [performAll, hu, List.cons_append] at h ⊢
    exact ih h

theorem performAll_tickOps (p : Ports) (s : State) :
    performAll p.tickOps s = .next (if p.tick then tickResult p.keyN p.rtsN p.nowMs s else s) := by
  unfold Ports.tickOps
  split <;> simp only [performAll, exec_tick]

theorem performAll_cfgOps (p : Ports) (s : State) :
    performAll p.cfgOps s = .next (if p.cfgWr then s.replaceConfig (Image.ofBits p.cfgIn) else s) := by
  unfold Ports.cfgOps
  split <;> simp only [performAll, exec_cfgWrite]

theorem performAll_ackOps (p : Ports) (s : State) :
    performAll p.ackOps s = .next { s with persistReq := s.persistReq && !p.persistAck } := by
  unfold Ports.ackOps
  cases p.persistAck <;> simp [performAll, exec_persistAck]

theorem decode_of_rst {p : Ports} (h : p.rst = true) :
    decode p = [.reset (Image.ofBits p.cfgIn) p.nowMs] := by
  simp only [decode, h, if_true]

theorem decode_of_not_rst {p : Ports} (h : p.rst = false) :
    decode p = if p.ctl = 0#4 then [.nop] else p.tickOps ++ p.cfgOps ++ p.ackOps := by
  simp [decode, h]

/-- NOP is the cycle with no other operation: it does what the empty line does (45_operations.md R252). -/
theorem performAll_decode_of_not_rst {p : Ports} (h : p.rst = false) (s : State) :
    performAll (decode p) s = performAll (p.tickOps ++ p.cfgOps ++ p.ackOps) s := by
  rw [decode_of_not_rst h]
  by_cases hz : p.ctl = 0#4
  · obtain ⟨-, ht, hc, ha⟩ := (ctl_eq_zero_iff p).mp hz
    simp [hz, Ports.tickOps, Ports.cfgOps, Ports.ackOps, ht, hc, ha, performAll, exec_nop]
  · rw [if_neg hz]

/-! #### The cycle -/

theorem commitTogether_of_rst {p : Ports} (h : p.rst = true) (s : State) :
    s.commitTogether p = s.resetRegisters (Image.ofBits p.cfgIn) p.nowMs := by
  simp only [State.commitTogether, h, if_true]

/-- Without RESET, the operations one after another give the registers computed all at once. -/
theorem opsInOrder_eq_commitTogether {p : Ports} (h : p.rst = false) (s : State) :
    let afterTick := if p.tick then tickResult p.keyN p.rtsN p.nowMs s else s
    let afterCfg := if p.cfgWr then afterTick.replaceConfig (Image.ofBits p.cfgIn) else afterTick
    ({ afterCfg with persistReq := afterCfg.persistReq && !p.persistAck } : State) = s.commitTogether p := by
  simp only [State.commitTogether, h, tickResult_eq, gatedKey, State.replaceConfig]
  cases p.tick <;> cases p.cfgWr <;> cases (Image.ofBits p.cfgIn).valid <;> rfl

/-- 45_operations.md R256: the operations of a cycle, performed in order, commit all registers together. -/
theorem performAll_decode (p : Ports) (s : State) : performAll (decode p) s = .next (s.commitTogether p) := by
  cases h : p.rst with
  | true => simp only [decode_of_rst h, commitTogether_of_rst h, performAll, exec_reset]
  | false =>
    rw [performAll_decode_of_not_rst h, List.append_assoc, performAll_append (performAll_tickOps p s),
      performAll_append (performAll_cfgOps p _), performAll_ackOps, opsInOrder_eq_commitTogether h]

theorem step_eq_commitTogether (s : State) : step s = .next (s.commitTogether s.ports).nextPorts := by
  simp only [step, cycle, performAll_decode]

/-! #### The port fields (log entry 1) -/

/-- The host's side replaced, every register kept: the samples `x` on the ports and the schedule `u` after them. -/
def State.withPorts (s : State) (x : Ports) (u : List Ports) : State := { s with ports := x, upcoming := u }

section
variable (s : State) (x : Ports) (u : List Ports)

@[simp] theorem State.withPorts_seq : (s.withPorts x u).seq = s.seq := rfl
@[simp] theorem State.withPorts_tmrStart : (s.withPorts x u).tmrStart = s.tmrStart := rfl
@[simp] theorem State.withPorts_tmrDelay : (s.withPorts x u).tmrDelay = s.tmrDelay := rfl
@[simp] theorem State.withPorts_gHold : (s.withPorts x u).gHold = s.gHold := rfl
@[simp] theorem State.withPorts_gLast : (s.withPorts x u).gLast = s.gLast := rfl
@[simp] theorem State.withPorts_gFlag : (s.withPorts x u).gFlag = s.gFlag := rfl
@[simp] theorem State.withPorts_relay : (s.withPorts x u).relay = s.relay := rfl
@[simp] theorem State.withPorts_cts : (s.withPorts x u).cts = s.cts := rfl
@[simp] theorem State.withPorts_cfgImg : (s.withPorts x u).cfgImg = s.cfgImg := rfl
@[simp] theorem State.withPorts_persistReq : (s.withPorts x u).persistReq = s.persistReq := rfl
@[simp] theorem State.withPorts_cfgDefaulted : (s.withPorts x u).cfgDefaulted = s.cfgDefaulted := rfl
@[simp] theorem State.withPorts_cfgRejected : (s.withPorts x u).cfgRejected = s.cfgRejected := rfl
@[simp] theorem State.withPorts_obsCombined : (s.withPorts x u).obsCombined = s.obsCombined := rfl
@[simp] theorem State.withPorts_obsKey : (s.withPorts x u).obsKey = s.obsKey := rfl
@[simp] theorem State.withPorts_ports : (s.withPorts x u).ports = x := rfl
@[simp] theorem State.withPorts_upcoming : (s.withPorts x u).upcoming = u := rfl

theorem expired_withPorts (now : Millis) : (s.withPorts x u).expired now = s.expired now := rfl

theorem advance_withPorts (i : Fin 4) (now : Millis) :
    (s.withPorts x u).advance i now = (s.advance i now).withPorts x u := by
  fin_cases i <;> rfl

theorem release_withPorts (i : Fin 4) (now : Millis) :
    (s.withPorts x u).release i now = (s.release i now).withPorts x u := by
  fin_cases i <;> rfl

/-- The sequencer neither reads nor writes the port fields. -/
theorem sequence_withPorts (key : Bool) (now : Millis) :
    (s.withPorts x u).sequence key now = (s.sequence key now).withPorts x u := by
  unfold State.sequence
  rw [State.withPorts_seq]
  cases s.seq with
  | rx =>
    simp only [State.seqRx]
    split <;> rfl
  | txStep i =>
    simp only [State.seqTxStep, expired_withPorts, advance_withPorts, apply_ite (State.withPorts · x u)]
    rfl
  | tx =>
    simp only [State.seqTx]
    split <;> rfl
  | rxStep i =>
    simp only [State.seqRxStep, expired_withPorts, release_withPorts, apply_ite (State.withPorts · x u)]
    rfl
  | unused c => rfl

/-- A cycle computes its registers from the samples it is given and the registers, not from the port fields. -/
theorem commitTogether_withPorts (p : Ports) :
    (s.withPorts x u).commitTogether p = (s.commitTogether p).withPorts x u := by
  cases h : p.rst with
  | true =>
    simp only [commitTogether_of_rst h]
    rfl
  | false =>
    simp only [State.commitTogether, h, sequence_withPorts]
    cases p.tick <;> rfl

end

theorem drive_cons (p : Ports) (ps : List Ports) (s : State) :
    drive (p :: ps) s = drive ps ((s.commitTogether p).withPorts p []) := by
  have hstep : step (s.withPorts p []) = .next ((s.commitTogether p).withPorts p []) := by
    rw [step_eq_commitTogether, State.withPorts_ports, commitTogether_withPorts]
    rfl
  rw [State.withPorts] at hstep
  simp only [drive, hstep]

theorem drive_singleton (p : Ports) (s : State) :
    drive [p] s = .next ((s.commitTogether p).withPorts p []) :=
  drive_cons p [] s

/-! #### Single cycles: 10_state.md R31, R41, R43 -/

section
variable (s : State) {p q : Ports} (hctl : p.ctl = q.ctl)
  (hcfg : p.rst = true ∨ p.cfgWr = true → p.cfgIn = q.cfgIn)
  (hraw : p.rst = false ∧ p.tick = true → p.keyN = q.keyN ∧ p.rtsN = q.rtsN)
  (hnow : p.rst = true ∨ p.tick = true → p.nowMs = q.nowMs)
include hctl hcfg hraw hnow

/-- The operations of a cycle carry the ports that they read, and no others (10_state.md R43). -/
theorem decode_congr : decode p = decode q := by
  have hrst : q.rst = p.rst := congrArg (BitVec.getLsbD · 3) hctl.symm
  have htick : q.tick = p.tick := congrArg (BitVec.getLsbD · 2) hctl.symm
  have hwr : q.cfgWr = p.cfgWr := congrArg (BitVec.getLsbD · 1) hctl.symm
  have hack : q.persistAck = p.persistAck := congrArg (BitVec.getLsbD · 0) hctl.symm
  cases h : p.rst with
  | true => rw [decode_of_rst h, decode_of_rst (hrst.trans h), hcfg (.inl h), hnow (.inl h)]
  | false =>
    have htickOps : q.tickOps = p.tickOps := by
      cases ht : p.tick with
      | false => simp [Ports.tickOps, htick, ht]
      | true =>
        obtain ⟨hkey, hrts⟩ := hraw ⟨h, ht⟩
        simp only [Ports.tickOps, htick, hkey, hrts, hnow (.inr ht)]
    have hcfgOps : q.cfgOps = p.cfgOps := by
      cases hw : p.cfgWr with
      | false => simp [Ports.cfgOps, hwr, hw]
      | true => simp only [Ports.cfgOps, hwr, hcfg (.inr hw)]
    have hackOps : q.ackOps = p.ackOps := by simp only [Ports.ackOps, hack]
    rw [decode_of_not_rst h, decode_of_not_rst (hrst.trans h), hctl, htickOps, hcfgOps, hackOps]

theorem commitTogether_congr : s.commitTogether p = s.commitTogether q := by
  have hp := performAll_decode p s
  rw [decode_congr hctl hcfg hraw hnow, performAll_decode] at hp
  exact (Host.Outcome.next.inj hp).symm

end

/-- Settles O37: the registers after a cycle are `commitTogether`, which the unread ports do not enter. -/
theorem unsampledPortsHaveNoEffect : Obligations.UnsampledPortsHaveNoEffect := by
  intro s p q x hctl hcfg hraw hnow
  refine ⟨_, _, drive_singleton p s, drive_singleton q s, ?_⟩
  rw [commitTogether_congr s hctl hcfg hraw hnow]
  rfl

/-- Substitution happens exactly for an invalid image (40_config_crc.md R127). -/
theorem loadAtReset_substituted (img : Image) : (loadAtReset img).2 = !img.valid := by
  unfold loadAtReset
  cases img.valid <;> rfl

theorem commitTogether_cfgDefaulted {p : Ports} (h : p.rst = false) (s : State) :
    (s.commitTogether p).cfgDefaulted = s.cfgDefaulted := by
  simp [State.commitTogether, h]

theorem commitTogether_persistReq {p : Ports} (h : p.rst = false) (s : State) :
    (s.commitTogether p).persistReq = (s.persistReq && !p.persistAck) := by
  simp [State.commitTogether, h]

/-- Settles O41: a RESET writes both registers from `loadAtReset`; any other cycle keeps the one and can only clear the
other. -/
theorem persistRequestRisesAtSubstitutionOnly : Obligations.PersistRequestRisesAtSubstitutionOnly := by
  intro s p
  refine ⟨_, drive_singleton p s, fun h => ?_, fun h => ?_⟩
  · simp [commitTogether_of_rst h, loadAtReset_substituted]
  · exact ⟨commitTogether_cfgDefaulted h s, commitTogether_persistReq h s⟩

/-- The port fields enter the outputs in `cfg_in_valid` only (10_state.md R41). -/
theorem outputs_withPorts (s : State) (p : Ports) (u : List Ports) :
    (s.withPorts p u).outputs = { s.outputs with cfgInValid := (Image.ofBits p.cfgIn).valid } := rfl

/-- Settles O39: `outputs_withPorts`, and each other output is its register by definition. -/
theorem outputsAreRegistersButForCfgInValid : Obligations.OutputsAreRegistersButForCfgInValid := by
  intro s p u
  exact ⟨outputs_withPorts s p u, rfl, rfl, rfl, rfl, rfl, rfl, rfl, rfl, rfl, rfl⟩

end Sys2Proof.Machine
end

section
/-! ### Encodings: the control vector, the sequencer code and the image (30_encoding.md)

The bits of a control vector, the bytes of an image and the checksummed image of a configuration, each said once; the
statements about encodings follow. -/

namespace Sys2Proof

/-! #### The encoder of a configuration (R95) -/

/-- Splitting a 2-byte field into its bytes and reading it back changes nothing (20_memory.md R63). -/
theorem littleEndian_of_halves (w : Half) : littleEndian (w.setWidth 8) ((w >>> 8).setWidth 8) = w := by
  apply BitVec.eq_of_toNat_eq
  have hw := w.isLt
  simp only [littleEndian_toNat, BitVec.toNat_setWidth, BitVec.toNat_ushiftRight, Nat.shiftRight_eq_div_pow]
  omega

/-- The field decode of R92 reads back the canonical byte of R95. -/
theorem flagByte_ne_zero (b : Bool) : (flagByte b != 0x00#8) = b := by
  cases b <;> rfl

theorem flagByte_canonical (b : Bool) : flagByte b = 0x00 ∨ flagByte b = 0x01 := by
  cases b with
  | false => exact .inl rfl
  | true => exact .inr rfl

theorem encodeStep_decode (c : StepConfig) : (encodeStep c).decode = c := by
  simp only [StepImage.decode, encodeStep, flagByte_ne_zero]

theorem encodeFields_decodeConfig (cfg : ConfigRecord) : (encodeFields cfg).decodeConfig = cfg := by
  simp only [Image.decodeConfig, Image.rtsEn, Image.ctsEn, Image.tmo, encodeFields, encodeStep_decode,
    flagByte_ne_zero, littleEndian_of_halves]

theorem encodeFields_rxPolarity_canonical (cfg : ConfigRecord) (i : Fin 4) :
    ((encodeFields cfg).step i).rxPolarity = 0x00 ∨ ((encodeFields cfg).step i).rxPolarity = 0x01 := by
  fin_cases i <;> exact flagByte_canonical _

/-- The checksum is no field of the decoded configuration (R92). -/
theorem Image.withChecksum_decodeConfig (img : Image) : img.withChecksum.decodeConfig = img.decodeConfig := rfl

theorem Image.withChecksum_step (img : Image) (i : Fin 4) : img.withChecksum.step i = img.step i := rfl

/-- The checksum does not cover its own bytes, 16 and 17 (R91). -/
theorem Image.withChecksum_covered (img : Image) : img.withChecksum.covered = img.covered := rfl

theorem Image.withChecksum_ck (img : Image) : img.withChecksum.ck = Machine.crc16 img.covered :=
  littleEndian_of_halves _

/-- Recomputing the checksum makes any image valid (40_config_crc.md R121). -/
theorem Image.withChecksum_valid (img : Image) : img.withChecksum.valid = true := by
  rw [Image.valid, Image.withChecksum_covered, Image.withChecksum_ck, beq_self_eq_true]

/-- Settles O14: the fields decode back and are canonical before the checksum is written, and writing it leaves them
and makes the image valid. -/
theorem encodedConfigurationDecodesAndIsValid : Obligations.EncodedConfigurationDecodesAndIsValid := by
  intro cfg
  refine ⟨?_, Image.withChecksum_valid _, fun i => ?_, flagByte_canonical _, flagByte_canonical _⟩
  · rw [encodeConfig, Image.withChecksum_decodeConfig, encodeFields_decodeConfig]
  · rw [encodeConfig, Image.withChecksum_step]
    exact encodeFields_rxPolarity_canonical cfg i

/-! #### The control vector (R81) -/

theorem rst_of_leading_one (low : BitVec 3) (img : BitVec 144) (k r : Bool) (now : Millis) :
    (Ports.mk (1#1 ++ low) img k r now).rst = true := by
  rw [Ports.rst, BitVec.getLsbD_append]
  rfl

/-- Settles O1: bit 3 alone decides RESET, and without it each other bit adds its own operation. -/
theorem controlVectorsSelectTheirOperations : Obligations.ControlVectorsSelectTheirOperations := by
  intro img k r now
  refine ⟨fun low => Machine.decode_of_rst (rst_of_leading_one low img k r now), ?_, ?_, ?_, ?_, ?_, ?_, ?_, ?_⟩
  all_goals
    rw [Machine.decode_of_not_rst (by simp [Ports.rst])]
    simp [Ports.tickOps, Ports.cfgOps, Ports.ackOps, Ports.tick, Ports.cfgWr, Ports.persistAck]

/-! #### The sequencer code (R84, R86) -/

theorem Machine.Seq.ofCode_code (q : Machine.Seq) : Machine.Seq.ofCode q.code = q := by
  cases q with
  | rx => rfl
  | txStep i => fin_cases i <;> rfl
  | tx => rfl
  | rxStep i => fin_cases i <;> rfl
  | unused c => fin_cases c <;> rfl

theorem Machine.Seq.code_ofCode : ∀ w : BitVec 4, (Machine.Seq.ofCode w).code = w := by
  decide

/-- Settles O5: the two functions invert each other, and no code of the table reaches 16. -/
theorem sequencerCodesMatchTheTable : Obligations.SequencerCodesMatchTheTable := by
  refine ⟨Machine.Seq.ofCode_code, Machine.Seq.code_ofCode, rfl, rfl, fun i => ?_, fun i => ?_, fun c => ?_⟩
  all_goals
    simp only [Machine.Seq.code, BitVec.toNat_ofNat]
    omega

/-! #### The bytes of an image (R90, R92) -/

/-- Byte `k` of an image, `img[k]`; 0 beyond the record. -/
def Image.byteAt (img : Image) (k : Nat) : Byte := img.bytes.getD k 0

theorem Image.bytes_length (img : Image) : img.bytes.length = 18 := rfl

theorem Image.bytes_getElem? (img : Image) {k : Nat} (hk : k < 18) : img.bytes[k]? = some (img.byteAt k) := by
  have h : k < img.bytes.length := img.bytes_length ▸ hk
  rw [Image.byteAt, List.getD_eq_getElem _ _ h, List.getElem?_eq_getElem h]

/-- Step record `i` is the bytes `3i`, `3i + 1`, `3i + 2` (R90). -/
theorem Image.step_eq_bytes (img : Image) (i : Fin 4) :
    img.step i = ⟨img.byteAt (3 * i.val), img.byteAt (3 * i.val + 1), img.byteAt (3 * i.val + 2)⟩ := by
  fin_cases i <;> rfl

/-- Settles O6: the bytes are `Image.byteAt`, where `Image.step_eq_bytes` places the step records. -/
theorem imageFieldsSitAtTheirOffsets : Obligations.ImageFieldsSitAtTheirOffsets := by
  intro img
  refine ⟨img.byteAt, img.bytes_length, fun k hk => img.bytes_getElem? hk, fun i => ?_, bne_iff_ne, bne_iff_ne,
    littleEndian_toNat _ _, littleEndian_toNat _ _⟩
  rw [Image.pol, Image.txd, Image.rxd, img.step_eq_bytes i]
  exact ⟨bne_iff_ne, rfl, rfl⟩

end Sys2Proof
end

section
/-! ### The configuration image's checksum and its replacement (40_config_crc.md)

The block runs the generic CRC of R123, which shifts left on reflected bytes; R122 shifts right on the bytes as they
are. Reversing the bits of the register turns every part of the one rule into the same part of the other. -/

namespace Sys2Proof.Machine

/-! #### Bit reversal -/

theorem reverse_xor {w : Nat} (x y : BitVec w) : (x ^^^ y).reverse = x.reverse ^^^ y.reverse := by
  apply BitVec.eq_of_getLsbD_eq
  intro i _
  simp only [BitVec.getLsbD_reverse, BitVec.getMsbD_xor, BitVec.getLsbD_xor]

theorem reverse_shiftLeft {w : Nat} (x : BitVec w) (n : Nat) : (x <<< n).reverse = x.reverse >>> n := by
  apply BitVec.eq_of_getLsbD_eq
  intro i _
  simp only [BitVec.getLsbD_ushiftRight, BitVec.getLsbD_reverse, BitVec.getMsbD_shiftLeft, Nat.add_comm]

/-- A reflected byte in the upper half of the register is, reversed, the byte in the lower half. -/
theorem reverse_reflectedByte (b : Byte) : (b.reverse.setWidth 16 <<< 8).reverse = b.setWidth 16 := by
  apply BitVec.eq_of_getLsbD_eq
  intro i hi
  rw [reverse_shiftLeft, BitVec.getLsbD_ushiftRight, BitVec.getLsbD_reverse, BitVec.getMsbD_setWidth,
    BitVec.getLsbD_setWidth, BitVec.getMsbD_reverse]
  simp [hi]

/-! #### The generic CRC with the tuple of CRC-16/MODBUS (R123) -/

/-- What turns one step of `f` into one step of `g` turns `n` steps of `f` into `n` steps of `g`. -/
theorem applyN_semiconj {α β : Type} {f : α → α} {g : β → β} {r : α → β} (h : ∀ a, r (f a) = g (r a))
    (n : Nat) (a : α) : r (applyN n f a) = applyN n g (r a) := by
  induction n generalizing a with
  | zero => rfl
  | succ n ih => rw [applyN, applyN, ih, h]

/-- 0xA001 is the bit-reverse of 0x8005, and the bit shifted out on the left is shifted out on the right (R122). -/
theorem reverse_crcBitGeneric (c : Half) : (crcBitGeneric 0x8005#16 c).reverse = crcBitReflected c.reverse := by
  have hbit : c.reverse.getLsbD 0 = c.getLsbD 15 := BitVec.getLsbD_reverse
  have hpoly : (0x8005#16).reverse = 0xA001#16 := by decide
  rw [crcBitGeneric, crcBitReflected, hbit]
  split
  · rw [reverse_xor, reverse_shiftLeft, hpoly]
  · rw [reverse_shiftLeft]

theorem reverse_crcByteGeneric (c : Half) (b : Byte) :
    (crcByteGeneric Config.modbus c b).reverse = crcByteReflected c.reverse b := by
  have hin : (c ^^^ (crcByteIn Config.modbus b).setWidth 16 <<< 8).reverse = c.reverse ^^^ b.setWidth 16 := by
    rw [reverse_xor, crcByteIn, Config.modbus, if_pos rfl, reverse_reflectedByte]
  rw [crcByteReflected, ← hin]
  exact applyN_semiconj reverse_crcBitGeneric 8 _

/-- The initial value 0xFFFF is its own reverse, and `refOut` takes the register back (R123). -/
theorem crc16Generic_modbus (bs : List Byte) : crc16Generic Config.modbus bs = crc16Modbus bs := by
  have hinit : (0xFFFF#16).reverse = 0xFFFF#16 := by decide
  have hfold := List.foldl_hom (l := bs) (init := 0xFFFF#16) BitVec.reverse
    fun c b => (reverse_crcByteGeneric c b).symm
  rw [hinit] at hfold
  rw [crc16Modbus, hfold]
  rfl

/-- The CRC that the block computes, at the spec's default parameters (00_scope.md R9). -/
theorem crc16_eq_crc16Modbus (bs : List Byte) : crc16 bs = crc16Modbus bs :=
  crc16Generic_modbus bs

/-! #### Validity (R121) -/

theorem valid_iff_crc16Modbus (img : Image) : img.valid = true ↔ crc16Modbus img.covered = img.ck := by
  rw [Image.valid, beq_iff_eq, crc16_eq_crc16Modbus]

/-- Settles O11: the block's CRC is R122's, and a 2-byte field as a number is its low byte and 256 times the
high one. -/
theorem validExactlyWhenModbusChecksumMatches : Obligations.ValidExactlyWhenModbusChecksumMatches := by
  intro img
  rw [valid_iff_crc16Modbus, ← BitVec.toNat_inj, Image.ck, littleEndian_toNat, Image.covered]

/-! #### CFG_WRITE (R130) -/

/-- Settles O17: `replaceConfig` writes only the configuration and the refusal bit, and validity picks the branch. -/
theorem cfgWriteReplacesOrRefuses : Obligations.CfgWriteReplacesOrRefuses := by
  intro img s
  refine ⟨_, exec_cfgWrite img s, ?_⟩
  obtain ⟨hvalid, hreplace⟩ | ⟨hinvalid, hreplace⟩ := replaceConfig_cases s img
  · simp [hreplace, hvalid]
  · simp [hreplace, hinvalid]

end Sys2Proof.Machine
end

section
/-! ### The step timer (41_step_timer.md)

A TICK arms the timer where it enters a transitional state and leaves it alone everywhere else; said once for the
sequencer, then for the whole TICK. -/

namespace Sys2Proof.Machine

/-- What happens to the timer on the way from `s` to `t` in a TICK at `now`: armed on entry into S_nT or S_nR with that
step's own dwell (R151), or kept where no transitional state is entered (R156). -/
inductive TimerCase (s : State) (now : Millis) (t : State) : Prop where
  | armedT (i : Fin 4) (hseq : t.seq = .txStep i) (hentry : t.seq ≠ s.seq) (hstart : t.tmrStart = now)
      (hdelay : t.tmrDelay = s.cfgImg.txd i)
  | armedR (i : Fin 4) (hseq : t.seq = .rxStep i) (hentry : t.seq ≠ s.seq) (hstart : t.tmrStart = now)
      (hdelay : t.tmrDelay = s.cfgImg.rxd i)
  | kept (hseq : t.seq = s.seq ∨ t.seq.transitional = false) (hstart : t.tmrStart = s.tmrStart)
      (hdelay : t.tmrDelay = s.tmrDelay)

theorem sequence_timerCase (s : State) (key : Bool) (now : Millis) : TimerCase s now (s.sequence key now) := by
  cases sequence_cases s key now with
  | idle hs hk ht =>
    rw [ht]
    exact .kept (.inl rfl) rfl rfl
  | keyed hs hk ht =>
    rw [ht]
    exact .armedT 0 rfl (by simp [hs]) rfl rfl
  | reverse i hs hk ht =>
    rw [ht]
    exact .armedR i rfl (by simp [hs]) rfl rfl
  | forward i j hs hk he hj ht =>
    have hji : j ≠ i := Fin.ne_of_val_ne (by omega)
    rw [ht]
    exact .armedT j rfl (by simp [hs, hji]) rfl rfl
  | transmit hs hk he ht =>
    rw [ht]
    exact .kept (.inr rfl) rfl rfl
  | unkeyed hs hk ht =>
    rw [ht]
    exact .armedR 3 rfl (by simp [hs]) rfl rfl
  | rekeyed i hs hk ht =>
    rw [ht]
    exact .armedT i rfl (by simp [hs]) rfl rfl
  | back i j hs hk he hj ht =>
    have hji : j ≠ i := Fin.ne_of_val_ne (by omega)
    rw [ht]
    exact .armedR j rfl (by simp [hs, hji]) rfl rfl
  | home hs hk he ht =>
    rw [ht]
    exact .kept (.inr rfl) rfl rfl
  | holdT i hs hk he ht | holdTx hs hk ht | holdR i hs hk he ht | absorbed c hs ht =>
    rw [ht]
    exact .kept (.inl rfl) rfl rfl

/-- The registers that a TICK writes beside the sequencer's are none of the timer's. -/
theorem tickResult_timerCase (keyN rtsN : Bool) (now : Millis) (s : State) :
    TimerCase s now (tickResult keyN rtsN now s) := by
  cases sequence_timerCase s (gatedKey (s.combined keyN rtsN) (s.guardFlagNext (s.combined keyN rtsN) now)) now with
  | armedT i hseq hentry hstart hdelay => exact .armedT i hseq hentry hstart hdelay
  | armedR i hseq hentry hstart hdelay => exact .armedR i hseq hentry hstart hdelay
  | kept hseq hstart hdelay => exact .kept hseq hstart hdelay

/-- Settles O31: the state that a TICK leads to says which of the timer's cases it was. -/
theorem timerIsArmedExactlyAtEntry : Obligations.TimerIsArmedExactlyAtEntry := by
  intro keyN rtsN now s
  refine ⟨_, exec_tick keyN rtsN now s, ?_⟩
  cases tickResult_timerCase keyN rtsN now s with
  | armedT i hseq hentry hstart hdelay =>
    rw [hseq] at hentry ⊢
    simp [hentry, hstart, hdelay, Seq.transitional]
  | armedR i hseq hentry hstart hdelay =>
    rw [hseq] at hentry ⊢
    simp [hentry, hstart, hdelay, Seq.transitional]
  | kept hseq hstart hdelay =>
    refine ⟨fun i hi hne => ?_, fun i hi hne => ?_, fun _ => ⟨hstart, hdelay⟩⟩
    all_goals
      rw [hi] at hseq hne
      simp [hne, Seq.transitional] at hseq

end Sys2Proof.Machine
end

section
/-! ### The keying input combiner (42_combiner.md)

The combined key and the gated key as conditions on the raw levels, and the one way the raw levels reach a TICK's
result: through the combined key. -/

namespace Sys2Proof.Machine

/-! #### The combined key and the gate -/

/-- Either source alone keys the transmitter, RTS only when enabled (R171 to R173). -/
theorem combined_iff (s : State) (keyN rtsN : Bool) :
    s.combined keyN rtsN = true ↔ keyN = false ∨ (s.cfgImg.rtsEn = true ∧ rtsN = false) := by
  simp only [State.combined, positiveKey, positiveRts, Bool.or_eq_true, Bool.and_eq_true, Bool.not_eq_true']

theorem combined_of_rts_disabled {s : State} (h : s.cfgImg.rtsEn = false) (keyN rtsN : Bool) :
    s.combined keyN rtsN = positiveKey keyN := by
  rw [State.combined, positiveRts, h, Bool.false_and, Bool.or_false]

theorem gatedKey_iff (combined flagNext : Bool) :
    gatedKey combined flagNext = true ↔ combined = true ∧ flagNext = false := by
  simp only [gatedKey, Bool.and_eq_true, Bool.not_eq_true']

/-- A clear flag lets the combined key through (R174). -/
theorem gatedKey_of_clear (combined : Bool) : gatedKey combined false = combined := Bool.and_true combined

/-- Timeout 0 forces the new flag clear (43_timeout_guard.md R194). -/
theorem guardFlagNext_of_tmo_zero {s : State} (h : s.cfgImg.tmo = 0) (combined : Bool) (now : Millis) :
    s.guardFlagNext combined now = false := if_pos h

/-! #### What a TICK stores of them (R175) -/

section
variable (keyN rtsN : Bool) (now : Millis) (s : State)

@[simp] theorem tickResult_obsCombined : (tickResult keyN rtsN now s).obsCombined = s.combined keyN rtsN := rfl

@[simp] theorem tickResult_gFlag :
    (tickResult keyN rtsN now s).gFlag = s.guardFlagNext (s.combined keyN rtsN) now := rfl

theorem tickResult_obsKey :
    (tickResult keyN rtsN now s).obsKey =
      gatedKey (tickResult keyN rtsN now s).obsCombined (tickResult keyN rtsN now s).gFlag := rfl

end

/-- A TICK reads the raw levels in its combined key only. -/
theorem tickResult_congr {s : State} {keyN rtsN keyN' rtsN' : Bool}
    (h : s.combined keyN rtsN = s.combined keyN' rtsN') (now : Millis) :
    tickResult keyN rtsN now s = tickResult keyN' rtsN' now s := by
  simp only [tickResult, h]

/-! #### The statements -/

/-- Settles O21: the stored combined key is R173's, the stored key is its gate by the new flag, and Timeout 0 keeps that
flag clear. -/
theorem tickCombinesTheKeyLines : Obligations.TickCombinesTheKeyLines := by
  intro keyN rtsN now s
  refine ⟨_, exec_tick keyN rtsN now s, combined_iff s keyN rtsN, gatedKey_iff _ _, fun htmo => ?_⟩
  rw [tickResult_obsKey, tickResult_gFlag, guardFlagNext_of_tmo_zero htmo, gatedKey_of_clear]

/-- Settles O23: with `key_n = 1` the hardware source drops out of the combined key; with RTS disabled the combined key
is the hardware source alone, and a TICK reads `rts_n` nowhere else. -/
theorem rtsCountsOnlyWhenEnabled : Obligations.RtsCountsOnlyWhenEnabled := by
  refine ⟨fun rtsN now s => ⟨_, exec_tick true rtsN now s, ?_⟩, fun keyN rtsN rtsN' now s hrts => ?_⟩
  · rw [tickResult_obsCombined, combined_iff]
    simp only [Bool.true_eq_false, false_or]
  · have hcombined : s.combined keyN rtsN = s.combined keyN rtsN' := by
      rw [combined_of_rts_disabled hrts, combined_of_rts_disabled hrts]
    rw [exec_tick, exec_tick, tickResult_congr hcombined]

end Sys2Proof.Machine
end

section
/-! ### The transmit timeout guard (43_timeout_guard.md)

The guard's new hold and new flag for a released and for a held key, and where the flag of a whole cycle comes from. -/

namespace Sys2Proof.Machine

/-- The product fits the 32 bits it is formed in (30_encoding.md R93). -/
theorem tmoMs_toNat (img : Image) : img.tmoMs.toNat = 1000 * img.tmo.toNat := by
  have htmo := img.tmo.isLt
  simp only [Image.tmoMs, BitVec.toNat_mul, BitVec.toNat_setWidth, BitVec.toNat_ofNat]
  omega

/-! #### Released and held (R192, R193) -/

section
variable (now : Millis)

theorem guardHoldNext_released (s : State) : s.guardHoldNext false now = 0 := rfl

theorem guardHoldNext_held_toNat (s : State) :
    (s.guardHoldNext true now).toNat =
      min (s.gHold.toNat + (now.toNat + 2 ^ 32 - s.gLast.toNat) % 2 ^ 32) (2 ^ 32 - 1) := by
  rw [guardHoldNext_toNat, guardDelta_toNat, if_pos rfl]

theorem guardFlagNext_released (s : State) : s.guardFlagNext false now = false := by
  rw [← Bool.not_eq_true, guardFlagNext_iff]
  rintro ⟨-, hheld, -⟩
  cases hheld

/-- With a Timeout in force the flag of a held key is sticky, or set by a hold beyond it (R193, R197). -/
theorem guardFlagNext_held_iff {s : State} (htmo : s.cfgImg.tmo ≠ 0) :
    s.guardFlagNext true now = true ↔
      s.gFlag = true ∨ 1000 * s.cfgImg.tmo.toNat < (s.guardHoldNext true now).toNat := by
  rw [guardFlagNext_iff, tmoMs_toNat]
  exact ⟨fun ⟨_, _, hset⟩ => hset, fun hset => ⟨htmo, rfl, hset⟩⟩

/-- What ends a set flag in a TICK (R197). -/
theorem guardFlagNext_clears_iff {s : State} (hflag : s.gFlag = true) (combined : Bool) :
    s.guardFlagNext combined now = false ↔ combined = false ∨ s.cfgImg.tmo = 0 := by
  by_cases htmo : s.cfgImg.tmo = 0
  · simp only [guardFlagNext_of_tmo_zero htmo, htmo, or_true]
  · cases combined with
    | false => simp only [guardFlagNext_released, true_or]
    | true =>
      have hkept : s.guardFlagNext true now = true := (guardFlagNext_held_iff now htmo).mpr (.inl hflag)
      simp only [hkept, htmo, Bool.true_eq_false, or_false]

end

/-! #### The guard's registers after a TICK and after a cycle (R195) -/

section
variable (keyN rtsN : Bool) (now : Millis) (s : State)

@[simp] theorem tickResult_gLast : (tickResult keyN rtsN now s).gLast = now := rfl

@[simp] theorem tickResult_gHold :
    (tickResult keyN rtsN now s).gHold = s.guardHoldNext (s.combined keyN rtsN) now := rfl

end

theorem commitTogether_gFlag_of_rst {p : Ports} (h : p.rst = true) (s : State) :
    (s.commitTogether p).gFlag = false := by
  rw [commitTogether_of_rst h, State.resetRegisters]

/-- Of the operations beside RESET, only TICK writes the flag (45_operations.md R256). -/
theorem commitTogether_gFlag_of_not_rst {p : Ports} (h : p.rst = false) (s : State) :
    (s.commitTogether p).gFlag =
      if p.tick then s.guardFlagNext (s.combined p.keyN p.rtsN) p.nowMs else s.gFlag := by
  simp [State.commitTogether, h]

/-! #### The statements -/

/-- Settles O22: the registers after a TICK are the guard's new values, read off for a released and for a held key. -/
theorem tickUpdatesTheGuard : Obligations.TickUpdatesTheGuard := by
  intro keyN rtsN now s
  refine ⟨_, exec_tick keyN rtsN now s, tickResult_gLast keyN rtsN now s, ?_⟩
  rw [tickResult_obsCombined, tickResult_gHold, tickResult_gFlag]
  refine ⟨fun hreleased => ?_, fun hheld => ?_, fun htmo => ?_, fun hheld htmo => ?_⟩
  · rw [hreleased]
    exact ⟨guardHoldNext_released now s, guardFlagNext_released now s⟩
  · rw [hheld]
    exact guardHoldNext_held_toNat now s
  · exact guardFlagNext_of_tmo_zero htmo _ now
  · rw [hheld]
    exact guardFlagNext_held_iff now htmo

/-- Settles O52: RESET clears the flag, a TICK clears a set flag exactly on R197's two conditions, and a cycle with
neither keeps it. -/
theorem timeoutFlagClearsOnlyOnThreeEvents : Obligations.TimeoutFlagClearsOnlyOnThreeEvents := by
  intro p s hflag
  refine ⟨_, drive_singleton p s, ?_⟩
  rw [State.withPorts_gFlag]
  cases hrst : p.rst with
  | true => simp [commitTogether_gFlag_of_rst hrst]
  | false =>
    rw [commitTogether_gFlag_of_not_rst hrst]
    cases htick : p.tick with
    | true => simp [guardFlagNext_clears_iff p.nowMs hflag]
    | false => simp [hflag]

end Sys2Proof.Machine
end

section
/-! ### The sequencer (44_sequencer.md)

A TICK moves the sequencer by `State.sequence` with the key it stores; one equation per row of R211's table says where
to, and the statements about TICK in each state, and about its edges, follow from these. -/

namespace Sys2Proof.Machine

/-! #### The rows of the table (R211) -/

section
variable {s : State} {i : Fin 4} (now : Millis)

theorem sequence_rx_released (h : s.seq = .rx) : s.sequence false now = s.redriveIdle := by
  simp [State.sequence, h, State.seqRx]

theorem sequence_rx_keyed (h : s.seq = .rx) : s.sequence true now = s.enterT 0 now := by
  simp [State.sequence, h, State.seqRx]

theorem sequence_txStep_released (h : s.seq = .txStep i) : s.sequence false now = s.enterR i now := by
  simp [State.sequence, h, State.seqTxStep]

theorem sequence_txStep_keyed (h : s.seq = .txStep i) :
    s.sequence true now = if s.expired now then s.advance i now else s := by
  simp [State.sequence, h, State.seqTxStep]

theorem sequence_tx_released (h : s.seq = .tx) :
    s.sequence false now = ({ s with cts := false } : State).enterR 3 now := by
  simp [State.sequence, h, State.seqTx]

theorem sequence_tx_keyed (h : s.seq = .tx) : s.sequence true now = s := by
  simp [State.sequence, h, State.seqTx]

theorem sequence_rxStep_keyed (h : s.seq = .rxStep i) : s.sequence true now = s.enterT i now := by
  simp [State.sequence, h, State.seqRxStep]

theorem sequence_rxStep_released (h : s.seq = .rxStep i) :
    s.sequence false now = if s.expired now then s.release i now else s := by
  simp [State.sequence, h, State.seqRxStep]

theorem sequence_unused {c : Fin 6} (h : s.seq = .unused c) (key : Bool) : s.sequence key now = s := by
  rw [State.sequence, h]

end

/-! #### The next state of the chain (R213, R223) -/

section
variable (s : State) (now : Millis)

theorem advance_of_succ {i j : Fin 4} (h : j.val = i.val + 1) : s.advance i now = s.enterT j now := by
  obtain ⟨m, hm, hadvance⟩ | ⟨rfl, -⟩ := advance_cases s i now
  · rw [hadvance, Fin.ext (hm.trans h.symm)]
  · exact absurd j.isLt (by omega)

theorem advance_last : s.advance 3 now = s.enterTx := rfl

theorem release_of_succ {i j : Fin 4} (h : i.val = j.val + 1) :
    s.release i now = (s.driveRelay i (s.cfgImg.pol i)).enterR j now := by
  obtain ⟨m, hm, hrelease⟩ | ⟨rfl, -⟩ := release_cases s i now
  · rw [hrelease, Fin.ext (show m.val = j.val by omega)]
  · cases h

theorem release_first : s.release 0 now = { s.driveRelay 0 (s.cfgImg.pol 0) with seq := .rx } := rfl

/-- Whatever state follows, a release moves its own step's relay only (R220). -/
theorem release_relay (i : Fin 4) : (s.release i now).relay = setRelayBit s.relay i (s.cfgImg.pol i) := by
  obtain ⟨j, -, hrelease⟩ | ⟨rfl, hrelease⟩ := release_cases s i now <;> rw [hrelease] <;> rfl

theorem release_cts (i : Fin 4) : (s.release i now).cts = s.cts := by
  obtain ⟨j, -, hrelease⟩ | ⟨rfl, hrelease⟩ := release_cases s i now <;> rw [hrelease] <;> rfl

theorem enterTx_cts_eq_or : s.enterTx.cts = (s.cfgImg.ctsEn || s.cts) := by
  rw [State.enterTx_cts]
  cases s.cfgImg.ctsEn <;> rfl

/-- CTS is written on the way into and out of Tx and in Rx, never in S_nR (R219 to R223). -/
theorem sequence_rxStep_cts {i : Fin 4} (h : s.seq = .rxStep i) (key : Bool) :
    (s.sequence key now).cts = s.cts := by
  cases key with
  | true => rw [sequence_rxStep_keyed now h, State.enterT_cts]
  | false =>
    rw [sequence_rxStep_released now h]
    split
    · exact release_cts s now i
    · rfl

end

/-! #### The sequencer's registers after a TICK (42_combiner.md R175) -/

section
variable (keyN rtsN : Bool) (now : Millis) (s : State)

theorem tickResult_seq : (tickResult keyN rtsN now s).seq =
    (s.sequence (tickResult keyN rtsN now s).obsKey now).seq := rfl

theorem tickResult_tmrStart : (tickResult keyN rtsN now s).tmrStart =
    (s.sequence (tickResult keyN rtsN now s).obsKey now).tmrStart := rfl

theorem tickResult_tmrDelay : (tickResult keyN rtsN now s).tmrDelay =
    (s.sequence (tickResult keyN rtsN now s).obsKey now).tmrDelay := rfl

theorem tickResult_relay : (tickResult keyN rtsN now s).relay =
    (s.sequence (tickResult keyN rtsN now s).obsKey now).relay := rfl

theorem tickResult_cts : (tickResult keyN rtsN now s).cts =
    (s.sequence (tickResult keyN rtsN now s).obsKey now).cts := rfl

/-- In an unused code a TICK is the guard's update alone (R224). -/
theorem tickResult_unused {s : State} {c : Fin 6} (h : s.seq = .unused c) :
    tickResult keyN rtsN now s = s.writeGuard (s.combined keyN rtsN) now := by
  rw [tickResult, sequence_unused now h]
  rfl

end

/-! #### A TICK in each state -/

/-- Settles O25: the idle relays are re-driven, or S1T is entered. -/
theorem tickInRx : Obligations.TickInRx := by
  intro keyN rtsN now s hs
  refine ⟨_, exec_tick keyN rtsN now s, ?_⟩
  simp only [tickResult_seq, tickResult_tmrStart, tickResult_tmrDelay, tickResult_relay, tickResult_cts]
  refine ⟨fun hkey => ?_, fun hkey => ?_⟩
  · rw [hkey, sequence_rx_released now hs]
    exact ⟨hs, idleRelays_getLsbD s.cfgImg, rfl, rfl, rfl⟩
  · rw [hkey, sequence_rx_keyed now hs]
    exact ⟨rfl, rfl, rfl, rfl, fun i => setRelayBit_getLsbD s.relay 0 i _⟩

/-- Settles O26: a lost key reverses at the same step; a kept one waits for the dwell and then advances, from S4T
into Tx. -/
theorem tickInTransmitStep : Obligations.TickInTransmitStep := by
  intro keyN rtsN now s i hs
  refine ⟨_, exec_tick keyN rtsN now s, ?_⟩
  simp only [tickResult_seq, tickResult_tmrStart, tickResult_tmrDelay, tickResult_relay, tickResult_cts]
  refine ⟨fun hkey => ?_, fun hkey hwait => ?_, fun hkey hexp j hj => ?_, fun hkey hexp hlast => ?_⟩
  · rw [hkey, sequence_txStep_released now hs]
    exact ⟨rfl, rfl, rfl, rfl, rfl⟩
  · rw [hkey, sequence_txStep_keyed now hs, hwait]
    exact ⟨rfl, rfl, rfl, rfl, rfl⟩
  · rw [hkey, sequence_txStep_keyed now hs, if_pos hexp, advance_of_succ s now hj]
    exact ⟨rfl, rfl, rfl, rfl, fun m => setRelayBit_getLsbD s.relay j m _⟩
  · rw [hkey, sequence_txStep_keyed now hs, if_pos hexp, hlast, advance_last]
    exact ⟨rfl, rfl, enterTx_cts_eq_or s, rfl, rfl⟩

/-- Settles O27: a kept key changes nothing, and a lost one deasserts CTS and enters S4R, which drives no relay. -/
theorem tickInTx : Obligations.TickInTx := by
  intro keyN rtsN now s hs
  refine ⟨_, exec_tick keyN rtsN now s, ?_⟩
  simp only [tickResult_seq, tickResult_tmrStart, tickResult_tmrDelay, tickResult_relay, tickResult_cts]
  cases (tickResult keyN rtsN now s).obsKey with
  | false => simp [sequence_tx_released now hs]
  | true => simp [sequence_tx_keyed now hs, hs]

/-- Settles O28: a regained key re-enters the transmit step; without one the dwell is awaited, and then the step's relay
is released on the way to the next state. -/
theorem tickInReceiveStep : Obligations.TickInReceiveStep := by
  intro keyN rtsN now s i hs
  refine ⟨_, exec_tick keyN rtsN now s, ?_⟩
  simp only [tickResult_seq, tickResult_tmrStart, tickResult_tmrDelay, tickResult_relay, tickResult_cts]
  refine ⟨sequence_rxStep_cts s now hs _, fun hkey => ?_, fun hkey hwait => ?_,
    fun hkey hexp => ⟨?_, fun hfirst => ?_, fun j hj => ?_⟩⟩
  · rw [hkey, sequence_rxStep_keyed now hs]
    exact ⟨rfl, rfl, rfl, fun m => setRelayBit_getLsbD s.relay i m _⟩
  · rw [hkey, sequence_rxStep_released now hs, hwait]
    exact ⟨rfl, rfl, rfl, rfl⟩
  · rw [hkey, sequence_rxStep_released now hs, if_pos hexp, release_relay]
    exact fun m => setRelayBit_getLsbD s.relay i m _
  · rw [hkey, sequence_rxStep_released now hs, if_pos hexp, hfirst, release_first]
    exact ⟨rfl, rfl, rfl⟩
  · rw [hkey, sequence_rxStep_released now hs, if_pos hexp, release_of_succ s now hj]
    exact ⟨rfl, rfl, rfl⟩

/-- Settles O29: in an unused code a TICK is the guard's update, which does not read the sequencer's state; RESET
enters Rx from every state. -/
theorem tickInUnusedCode : Obligations.TickInUnusedCode := by
  intro keyN rtsN now s c hs
  refine ⟨⟨_, _, exec_tick keyN rtsN now s, exec_tick keyN rtsN now { s with seq := .rx }, ?_⟩,
    fun img => ⟨_, exec_reset img now s, rfl⟩⟩
  rw [tickResult_unused keyN rtsN now hs]
  rfl

/-! #### The transition graph (R210) -/

/-- The sequencer takes an edge of the graph, or none leaves its state under the tick's condition. -/
theorem sequence_takes_edge_or_stays (s : State) (key : Bool) (now : Millis) :
    Edge s.seq key (s.expired now) (s.sequence key now).seq ∨
      ((s.sequence key now).seq = s.seq ∧ ∀ q, ¬ Edge s.seq key (s.expired now) q) := by
  cases sequence_cases s key now with
  | keyed hs hk ht =>
    rw [ht, hs, hk]
    exact .inl (.keyed _)
  | reverse i hs hk ht =>
    rw [ht, hs, hk]
    exact .inl (.reverse i _)
  | forward i j hs hk he hj ht =>
    rw [ht, hs, hk, he]
    exact .inl (.forward i j hj)
  | transmit hs hk he ht =>
    rw [ht, hs, hk, he]
    exact .inl .transmit
  | unkeyed hs hk ht =>
    rw [ht, hs, hk]
    exact .inl (.unkeyed _)
  | rekeyed i hs hk ht =>
    rw [ht, hs, hk]
    exact .inl (.rekeyed i _)
  | back i j hs hk he hj ht =>
    rw [ht, hs, hk, he]
    exact .inl (.back i j hj)
  | home hs hk he ht =>
    rw [ht, hs, hk, he]
    exact .inl .idle
  | idle hs hk ht =>
    rw [ht, State.redriveIdle_seq, hs, hk]
    exact .inr ⟨rfl, nofun⟩
  | holdT i hs hk he ht | holdR i hs hk he ht =>
    rw [ht, hs, hk, he]
    exact .inr ⟨rfl, nofun⟩
  | holdTx hs hk ht =>
    rw [ht, hs, hk]
    exact .inr ⟨rfl, nofun⟩
  | absorbed c hs ht =>
    rw [ht, hs]
    exact .inr ⟨rfl, nofun⟩

/-- Settles O30: a TICK moves the sequencer by `State.sequence`, with the key it stores. -/
theorem tickTakesOnlyTheListedEdges : Obligations.TickTakesOnlyTheListedEdges := by
  intro keyN rtsN now s
  exact ⟨_, exec_tick keyN rtsN now s, sequence_takes_edge_or_stays s _ now⟩

end Sys2Proof.Machine
end

section
/-! ### The operations (45_operations.md)

Which vectors select the two operations without operands, what NOP and PERSIST_ACK leave, and the order of a cycle. -/

namespace Sys2Proof.Machine

/-! #### The vectors of NOP and PERSIST_ACK (30_encoding.md R81, R82) -/

/-- An operation that is alone in its slot, so one without operands, is performed exactly by the vectors of its row. -/
theorem mem_decode_iff_row {i : Instr} (hrow : Laws.RowSelects.Statement i) (hslot : ∀ j, j.slot = i.slot → j = i)
    (p : Ports) : i ∈ decode p ↔ p.ctl &&& rowMask i = rowMatch i := by
  rw [hrow p]
  refine ⟨fun hmem => ⟨i, hmem, rfl⟩, fun ⟨j, hmem, hj⟩ => ?_⟩
  rwa [← hslot j hj]

theorem eq_nop_of_slot : ∀ j : Instr, j.slot = Instr.nop.slot → j = .nop
  | .nop, _ => rfl

theorem eq_persistAck_of_slot : ∀ j : Instr, j.slot = Instr.persistAck.slot → j = .persistAck
  | .persistAck, _ => rfl

theorem nop_mem_decode_iff (p : Ports) : Instr.nop ∈ decode p ↔ p.ctl = 0#4 := by
  rw [mem_decode_iff_row Laws.RowSelects.nop eq_nop_of_slot]
  exact Eq.congr_left BitVec.and_allOnes

/-- The row 0xx1 reads bits 3 and 0. -/
theorem row_persistAck_iff : ∀ c : BitVec 4,
    c &&& rowMask .persistAck = rowMatch .persistAck ↔ c.getLsbD 3 = false ∧ c.getLsbD 0 = true := by
  simp only [rowMask, rowMatch]
  decide

theorem persistAck_mem_decode_iff (p : Ports) :
    Instr.persistAck ∈ decode p ↔ p.rst = false ∧ p.persistAck = true := by
  rw [mem_decode_iff_row Laws.RowSelects.persistAck eq_persistAck_of_slot]
  exact row_persistAck_iff p.ctl

/-! #### NOP cycles (R252) -/

theorem decode_of_ctl_zero {p : Ports} (h : p.ctl = 0#4) : decode p = [.nop] := by
  obtain ⟨hrst, -⟩ := (ctl_eq_zero_iff p).mp h
  rw [decode_of_not_rst hrst, if_pos h]

theorem commitTogether_of_ctl_zero {p : Ports} (h : p.ctl = 0#4) (s : State) : s.commitTogether p = s := by
  have hcycle := performAll_decode p s
  simp only [decode_of_ctl_zero h, performAll, exec_nop] at hcycle
  exact (Host.Outcome.next.inj hcycle).symm

/-- A driven cycle is given its own samples, so those that stood on the ports before it are forgotten. -/
theorem drive_singleton_withPorts (p x : Ports) (u : List Ports) (s : State) :
    drive [p] (s.withPorts x u) = drive [p] s := by
  rw [drive_singleton, drive_singleton, commitTogether_withPorts]
  rfl

theorem drive_append_of_nops {ps : List Ports} (hnop : ∀ q ∈ ps, q.ctl = 0#4) (p : Ports) (s : State) :
    drive (ps ++ [p]) s = drive [p] s := by
  induction ps generalizing s with
  | nil => rfl
  | cons q ps ih =>
    obtain ⟨hq, hps⟩ := List.forall_mem_cons.mp hnop
    calc drive (q :: (ps ++ [p])) s
        = drive (ps ++ [p]) (s.withPorts q []) := by rw [drive_cons, commitTogether_of_ctl_zero hq]
      _ = drive [p] (s.withPorts q []) := ih hps _
      _ = drive [p] s := drive_singleton_withPorts p q [] s

/-! #### The statements -/

/-- Settles O16: the row of PERSIST_ACK reads `rst` and `persist_ack`, and its meaning writes the one register. -/
theorem persistAckClearsTheRequestOnly : Obligations.PersistAckClearsTheRequestOnly := by
  refine ⟨persistAck_mem_decode_iff, fun s => ⟨_, exec_persistAck s, rfl, rfl, fun hreq => ?_⟩⟩
  rw [← hreq]

/-- Settles O15: the row of NOP is the vector 0000, and a NOP cycle leaves nothing but its samples on the ports, which
the next cycle's replace. -/
theorem nopWritesNothing : Obligations.NopWritesNothing :=
  ⟨nop_mem_decode_iff, exec_nop, fun _ p s hnop => drive_append_of_nops hnop p s⟩

/-- Settles O35: `performAll_decode` runs the operations in R256's order, and a step is that and the next samples. -/
theorem cycleCommitsAllRegistersTogether : Obligations.CycleCommitsAllRegistersTogether :=
  step_eq_commitTogether

end Sys2Proof.Machine
end

section
/-! ### The timeout cutoff (60_exceptions.md)

The cutoff is no operation of its own: a tick with the new flag set is a tick with the key lost, so what it does in each
state is what the statements about TICK in that state say of a lost key. -/

namespace Sys2Proof.Machine

/-- A TICK completes in one state, so what some outcome of it satisfies holds of `tickResult`. -/
theorem exists_exec_tick_iff {keyN rtsN : Bool} {now : Millis} {s : State} {P : State → Prop} :
    (∃ t, exec (.tick keyN rtsN now) s = .next t ∧ P t) ↔ P (tickResult keyN rtsN now s) := by
  simp only [exec_tick, Host.Outcome.next.injEq, exists_eq_left']

/-- The new flag gates the key of its own tick (42_combiner.md R174). -/
theorem tickResult_obsKey_of_gFlag {keyN rtsN : Bool} {now : Millis} {s : State}
    (hflag : (tickResult keyN rtsN now s).gFlag = true) : (tickResult keyN rtsN now s).obsKey = false := by
  rw [tickResult_obsKey, hflag, gatedKey, Bool.not_true, Bool.and_false]

/-- Settles O24: the new flag clears the key of its tick, and each clause is the lost-key case of a TICK in that
state. -/
theorem timeoutCutsTheKeyInItsOwnTick : Obligations.TimeoutCutsTheKeyInItsOwnTick := by
  intro keyN rtsN now s
  refine ⟨_, exec_tick keyN rtsN now s, fun hflag => ?_⟩
  have hkey := tickResult_obsKey_of_gFlag hflag
  refine ⟨hkey, fun hs => ?tx, fun i hs => ?txStep, fun i hs hwait => ?rxStepHold, fun i hs hexp => ?rxStepRelease,
    fun hs => ?rx, fun c hs => ?unused⟩
  case tx =>
    obtain ⟨hrelay, -, hlost⟩ := exists_exec_tick_iff.mp (tickInTx keyN rtsN now s hs)
    obtain ⟨hseq, hcts, htimer⟩ := hlost hkey
    exact ⟨hseq, hrelay, hcts, htimer⟩
  case txStep =>
    obtain ⟨hlost, -⟩ := exists_exec_tick_iff.mp (tickInTransmitStep keyN rtsN now s i hs)
    exact hlost hkey
  case rxStepHold =>
    obtain ⟨hcts, -, hhold, -⟩ := exists_exec_tick_iff.mp (tickInReceiveStep keyN rtsN now s i hs)
    obtain ⟨hseq, hrelay, htimer⟩ := hhold hkey hwait
    exact ⟨hseq.trans hs, hrelay, hcts, htimer⟩
  case rxStepRelease =>
    obtain ⟨hcts, -, -, hrelease⟩ := exists_exec_tick_iff.mp (tickInReceiveStep keyN rtsN now s i hs)
    exact ⟨hcts, hrelease hkey hexp⟩
  case rx =>
    obtain ⟨hidle, -⟩ := exists_exec_tick_iff.mp (tickInRx keyN rtsN now s hs)
    exact hidle hkey
  case unused =>
    rw [tickResult_unused keyN rtsN now hs]
    exact ⟨hs, rfl, rfl, rfl, rfl⟩

end Sys2Proof.Machine
end

section
/-! ### Reset and completion (70_reset_and_hazards.md)

What RESET loads, and that no stimulus stops the block. -/

namespace Sys2Proof.Machine

/-! #### The image loaded at RESET (40_config_crc.md R127) -/

theorem loadAtReset_of_valid {img : Image} (h : img.valid = true) : loadAtReset img = (img, false) :=
  if_pos h

theorem loadAtReset_of_invalid {img : Image} (h : img.valid = false) : loadAtReset img = (defaultImage, true) :=
  if_neg (Bool.eq_false_iff.mp h)

/-! #### The statements -/

/-- Settles O36, by induction on the samples: each cycle leaves a state from which the rest of the run completes. -/
theorem everyStimulusCompletes : Obligations.EveryStimulusCompletes := by
  intro ps
  induction ps with
  | nil => exact fun s => ⟨s, rfl⟩
  | cons p ps ih =>
    intro s
    rw [drive_cons]
    exact ih _

/-- Settles O18: RESET leaves `resetRegisters`, whose configuration registers and relays come from the image loaded, the
presented one or the default. -/
theorem resetWritesEveryRegister : Obligations.ResetWritesEveryRegister := by
  intro img now s
  refine ⟨_, exec_reset img now s, rfl, rfl, rfl, rfl, rfl, rfl, rfl, rfl, rfl, rfl, fun hvalid => ?presented,
    fun hinvalid => ?substituted, idleRelays_getLsbD (loadAtReset img).1, rfl, rfl⟩
  case presented => simp [loadAtReset_of_valid hvalid]
  case substituted => simp [loadAtReset_of_invalid hinvalid]

end Sys2Proof.Machine
end

section
/-! ### Images on the ports and lines of operations (10_state.md R40, R43; 30_encoding.md R81 to R83, R100)

An image and its port, byte by byte; then what encoding a decoded cycle gives, in every port; then the other direction,
which needs no second look at the encoder: a well-formed line is what some sample decodes to. -/

namespace Sys2Proof

/-! #### An image on its port (10_state.md R40) -/

theorem Image.ofBits_bytes (w : BitVec 144) : (Image.ofBits w).bytes = (List.range 18).map (portByte w) := rfl

theorem Image.ofBits_toBits (img : Image) : Image.ofBits img.toBits = img := by
  have hbyte (k : Nat) (hk : k < 18) : portByte img.toBits k = img.byteAt k := by
    rw [Image.toBits, portByte_packBytes _ _ hk, Image.bytes_getElem? _ hk, Option.getD_some]
  simp only [Image.ofBits, hbyte, Nat.reduceLT]
  rfl

theorem Image.toBits_ofBits (w : BitVec 144) : (Image.ofBits w).toBits = w := by
  apply BitVec.eq_of_getLsbD_eq
  intro i hi
  have hk : i / 8 < 18 := by omega
  have hbit : i % 8 < 8 := by omega
  rw [Image.toBits, packBytes_getLsbD _ _ hi, Image.ofBits_bytes, List.getElem?_map,
    List.getElem?_range hk, Option.map_some, Option.getD_some, portByte, BitVec.getLsbD_extractLsb',
    Nat.div_add_mod, decide_eq_true hbit, Bool.true_and]

/-- Settles O4: each direction goes byte by byte through `packBytes`. -/
theorem imagePortsCarryEveryByte : Obligations.ImagePortsCarryEveryByte := by
  refine ⟨Image.toBits_ofBits, Image.ofBits_toBits, fun img k hk => ?_, fun img => rfl⟩
  rw [Image.toBits, portByte_packBytes _ _ hk, Image.bytes_getElem? _ hk, Option.getD_some]

/-! #### The encoder on decoded operations -/

section
variable (p q : Ports)

theorem Ports.merge_zero : p.merge Ports.zero = p := by
  simp [Ports.merge, Ports.zero]

theorem Ports.zero_merge : Ports.zero.merge p = p := by
  simp [Ports.merge, Ports.zero]

theorem Ports.merge_assoc (r : Ports) : (p.merge q).merge r = p.merge (q.merge r) := by
  simp only [Ports.merge, BitVec.or_assoc, Bool.or_assoc]

end

theorem encode_singleton (i : Instr) : encode [i] = encodeOp i :=
  Ports.merge_zero _

theorem encode_append (l l' : List Instr) : encode (l ++ l') = (encode l).merge (encode l') := by
  induction l with
  | nil => exact (Ports.zero_merge _).symm
  | cons i l ih => rw [List.cons_append, encode, encode, ih, Ports.merge_assoc]

theorem encode_tickOps (p : Ports) :
    encode p.tickOps =
      { ctl := if p.tick then 0b0100#4 else 0, cfgIn := 0, keyN := p.tick && p.keyN, rtsN := p.tick && p.rtsN
        nowMs := if p.tick then p.nowMs else 0 } := by
  unfold Ports.tickOps
  cases p.tick with
  | false => rfl
  | true => exact encode_singleton _

theorem encode_cfgOps (p : Ports) :
    encode p.cfgOps =
      { Ports.zero with ctl := if p.cfgWr then 0b0010#4 else 0, cfgIn := if p.cfgWr then p.cfgIn else 0 } := by
  unfold Ports.cfgOps
  cases p.cfgWr with
  | false => rfl
  | true =>
    rw [if_pos rfl, encode_singleton, encodeOp, Image.toBits_ofBits]
    rfl

theorem encode_ackOps (p : Ports) :
    encode p.ackOps = { Ports.zero with ctl := if p.persistAck then 0b0001#4 else 0 } := by
  unfold Ports.ackOps
  cases p.persistAck with
  | false => rfl
  | true => exact encode_singleton _

/-- Without bit 3 a control vector is the OR of the bits its operations name (30_encoding.md R100). -/
theorem ctl_eq_or_of_bits : ∀ c : BitVec 4, c.getLsbD 3 = false →
    (if c.getLsbD 2 then 0b0100#4 else 0) ||| (if c.getLsbD 1 then 0b0010#4 else 0) |||
      (if c.getLsbD 0 then 0b0001#4 else 0) = c := by
  decide

theorem encode_decode_of_rst {p : Ports} (h : p.rst = true) :
    encode (decode p) = { Ports.zero with ctl := 0b1000#4, cfgIn := p.cfgIn, nowMs := p.nowMs } := by
  rw [Machine.decode_of_rst h, encode_singleton, encodeOp, Image.toBits_ofBits]

/-- The operand ports come back where an operation of the cycle reads them, and are zero elsewhere. -/
theorem encode_decode_of_not_rst {p : Ports} (h : p.rst = false) :
    encode (decode p) =
      { ctl := p.ctl, cfgIn := if p.cfgWr then p.cfgIn else 0, keyN := p.tick && p.keyN
        rtsN := p.tick && p.rtsN, nowMs := if p.tick then p.nowMs else 0 } := by
  rw [Machine.decode_of_not_rst h]
  split
  case isTrue hz =>
    obtain ⟨-, htick, hwr, -⟩ := (ctl_eq_zero_iff p).mp hz
    simp only [encode_singleton, encodeOp, Ports.zero, hz, htick, hwr, Bool.false_and, Bool.false_eq_true, if_false]
    rfl
  case isFalse =>
    rw [encode_append, encode_append, encode_tickOps, encode_cfgOps, encode_ackOps]
    simp only [Ports.merge, Ports.zero, BitVec.ofNat_eq_ofNat, BitVec.or_zero, BitVec.zero_or, Bool.or_false]
    exact congrArg (Ports.mk · _ _ _ _) (ctl_eq_or_of_bits p.ctl h)

/-! #### Well-formed lines (30_encoding.md R81, R100; log entry 18) -/

theorem risesStrictly_iff_pairwise (l : List Nat) : risesStrictly l = true ↔ l.Pairwise (· < ·) := by
  rw [← List.isChain_iff_pairwise]
  induction l with
  | nil => simp [risesStrictly]
  | cons a l ih =>
    cases l with
    | nil => simp [risesStrictly]
    | cons b l => rw [risesStrictly, Bool.and_eq_true, decide_eq_true_iff, ih, List.isChain_cons_cons]

theorem lineInOrder_iff (l : List Instr) : lineInOrder l = true ↔ l.Pairwise fun i j => i.slot < j.slot := by
  rw [lineInOrder, risesStrictly_iff_pairwise, List.pairwise_map]

theorem lineWellFormed_iff (l : List Instr) :
    lineWellFormed l = true ↔ l ≠ [] ∧ (l.length = 1 ∨ ∀ i ∈ l, i.standsAlone = false) ∧
      l.Pairwise fun i j => i.slot < j.slot := by
  simp [lineWellFormed, lineNotEmpty, lineKeepsAlone, lineInOrder_iff, and_assoc]

/-- Whether a line is well formed, read off the slots of its operations. -/
def slotsWellFormed (ns : List Nat) : Bool :=
  !ns.isEmpty && (ns.length == 1 || ns.all fun n => !(n == 0 || n == 4)) && risesStrictly ns

theorem standsAlone_eq_slot (i : Instr) : i.standsAlone = (i.slot == 0 || i.slot == 4) := by
  cases i <;> rfl

theorem lineWellFormed_eq_slots (l : List Instr) : lineWellFormed l = slotsWellFormed (l.map Instr.slot) := by
  simp only [lineWellFormed, lineNotEmpty, lineKeepsAlone, lineInOrder, slotsWellFormed, standsAlone_eq_slot,
    List.isEmpty_map, List.length_map, List.all_map, Function.comp_def]

theorem slotsOf_wellFormed : ∀ rst tick cfgWr ack : Bool,
    slotsWellFormed (Laws.slotsOf rst tick cfgWr ack) = true := by
  decide

theorem lineWellFormed_decode (p : Ports) : lineWellFormed (decode p) = true := by
  rw [lineWellFormed_eq_slots, Laws.slots_of_decode, slotsOf_wellFormed]

/-- Settles O3: the two equations for the encoded decoding. -/
theorem decodedPortsEncodeBack : Obligations.DecodedPortsEncodeBack := by
  intro p
  refine ⟨lineWellFormed_decode p, ?_⟩
  cases h : p.rst with
  | true =>
    rw [encode_decode_of_rst h]
    simp
  | false =>
    rw [encode_decode_of_not_rst h]
    exact ⟨rfl, fun hread => if_pos (hread.resolve_left Bool.false_ne_true), fun ⟨_, htick⟩ => by simp [htick],
      fun hread => if_pos (hread.resolve_left Bool.false_ne_true)⟩

/-- A rising line in the slots from `n` on has an operation in slot `n` first, or none there. -/
theorem first_in_slot_or_none {l : List Instr} {n : Nat} (hrise : l.Pairwise fun i j => i.slot < j.slot)
    (hslot : ∀ i ∈ l, n ≤ i.slot) :
    ∃ (first : Option Instr) (rest : List Instr), l = first.toList ++ rest ∧ (∀ i ∈ first, i.slot = n) ∧
      (∀ j ∈ rest, n + 1 ≤ j.slot) ∧ rest.Pairwise fun i j => i.slot < j.slot := by
  cases l with
  | nil => exact ⟨none, [], rfl, nofun, nofun, .nil⟩
  | cons i l =>
    obtain ⟨habove, hrest⟩ := List.pairwise_cons.mp hrise
    obtain hn | hn := (hslot i List.mem_cons_self).eq_or_lt
    · exact ⟨some i, l, rfl, fun j hj => Option.some.inj hj ▸ hn.symm, fun j hj => hn ▸ habove j hj, hrest⟩
    · exact ⟨none, i :: l, rfl, nofun, List.forall_mem_cons.mpr ⟨hn, fun j hj => hn.trans (habove j hj)⟩, hrise⟩

theorem slot_of_not_standsAlone : ∀ i : Instr, i.standsAlone = false → 1 ≤ i.slot ∧ i.slot < 4
  | .tick _ _ _, _ | .cfgWrite _, _ | .persistAck, _ => by simp [Instr.slot]

theorem toList_of_slot_one : ∀ o : Option Instr, (∀ i ∈ o, i.slot = 1) →
    ∃ (b k r : Bool) (now : Millis), o.toList = if b then [.tick k r now] else []
  | none, _ => ⟨false, false, false, 0, rfl⟩
  | some (.tick k r now), _ => ⟨true, k, r, now, rfl⟩
  | some (.reset _ _), h | some (.cfgWrite _), h | some .persistAck, h | some .nop, h => nomatch h _ rfl

theorem toList_of_slot_two : ∀ o : Option Instr, (∀ i ∈ o, i.slot = 2) →
    ∃ (b : Bool) (img : Image), o.toList = if b then [.cfgWrite img] else []
  | none, _ => ⟨false, Image.ofBits 0, rfl⟩
  | some (.cfgWrite img), _ => ⟨true, img, rfl⟩
  | some (.reset _ _), h | some (.tick _ _ _), h | some .persistAck, h | some .nop, h => nomatch h _ rfl

theorem toList_of_slot_three : ∀ o : Option Instr, (∀ i ∈ o, i.slot = 3) →
    ∃ b : Bool, o.toList = if b then [.persistAck] else []
  | none, _ => ⟨false, rfl⟩
  | some .persistAck, _ => ⟨true, rfl⟩
  | some (.reset _ _), h | some (.tick _ _ _), h | some (.cfgWrite _), h | some .nop, h => nomatch h _ rfl

/-- A line of TICK, CFG_WRITE and PERSIST_ACK, each at most once and in that order. -/
theorem parts_of_not_standsAlone {l : List Instr} (halone : ∀ i ∈ l, i.standsAlone = false)
    (hrise : l.Pairwise fun i j => i.slot < j.slot) :
    ∃ (tick k r cfgWr ack : Bool) (now : Millis) (img : Image), l = (if tick then [.tick k r now] else []) ++
      (if cfgWr then [.cfgWrite img] else []) ++ (if ack then [.persistAck] else []) := by
  obtain ⟨o1, l1, h1, hslot1, habove1, hrise1⟩ :=
    first_in_slot_or_none hrise fun i hi => (slot_of_not_standsAlone i (halone i hi)).1
  obtain ⟨o2, l2, h2, hslot2, habove2, hrise2⟩ := first_in_slot_or_none hrise1 habove1
  obtain ⟨o3, l3, h3, hslot3, habove3, -⟩ := first_in_slot_or_none hrise2 habove2
  have hnone : l3 = [] := List.eq_nil_iff_forall_not_mem.mpr fun i hi => by
    have hmem : i ∈ l := by simp [h1, h2, h3, hi]
    exact absurd (slot_of_not_standsAlone i (halone i hmem)).2 (Nat.not_lt.mpr (habove3 i hi))
  obtain ⟨tick, k, r, now, htick⟩ := toList_of_slot_one o1 hslot1
  obtain ⟨cfgWr, img, hcfg⟩ := toList_of_slot_two o2 hslot2
  obtain ⟨ack, hack⟩ := toList_of_slot_three o3 hslot3
  exact ⟨tick, k, r, cfgWr, ack, now, img, by
    rw [h1, h2, h3, hnone, htick, hcfg, hack, List.append_nil, List.append_assoc]⟩

/-- The control vector of a cycle without RESET, from its three operation bits. -/
def operationBits (tick cfgWr ack : Bool) : BitVec 4 :=
  BitVec.ofBool false ++ BitVec.ofBool tick ++ BitVec.ofBool cfgWr ++ BitVec.ofBool ack

theorem operationBits_ne_zero : ∀ {tick cfgWr ack : Bool}, tick = true ∨ cfgWr = true ∨ ack = true →
    operationBits tick cfgWr ack ≠ 0#4 := by
  decide

theorem decode_operationBits {tick cfgWr ack : Bool} (hsome : tick = true ∨ cfgWr = true ∨ ack = true)
    (w : BitVec 144) (k r : Bool) (now : Millis) :
    decode ⟨operationBits tick cfgWr ack, w, k, r, now⟩ =
      (if tick then [.tick k r now] else []) ++ (if cfgWr then [.cfgWrite (Image.ofBits w)] else []) ++
        (if ack then [.persistAck] else []) := by
  have hbit := Machine.fourBits_getLsbD ack cfgWr tick false
  have hrst : (Ports.mk (operationBits tick cfgWr ack) w k r now).rst = false := hbit 3
  have htick : (Ports.mk (operationBits tick cfgWr ack) w k r now).tick = tick := hbit 2
  have hwr : (Ports.mk (operationBits tick cfgWr ack) w k r now).cfgWr = cfgWr := hbit 1
  have hack : (Ports.mk (operationBits tick cfgWr ack) w k r now).persistAck = ack := hbit 0
  rw [Machine.decode_of_not_rst hrst, if_neg (operationBits_ne_zero hsome), Ports.tickOps, Ports.cfgOps,
    Ports.ackOps, htick, hwr, hack]

/-- Every well-formed line is what some sample decodes to. -/
theorem exists_decode_eq_of_wellFormed {l : List Instr} (h : lineWellFormed l = true) : ∃ p, decode p = l := by
  obtain ⟨hne, halone, hrise⟩ := (lineWellFormed_iff l).mp h
  by_cases hcomp : ∀ i ∈ l, i.standsAlone = false
  · obtain ⟨tick, k, r, cfgWr, ack, now, img, hl⟩ := parts_of_not_standsAlone hcomp hrise
    refine ⟨⟨operationBits tick cfgWr ack, img.toBits, k, r, now⟩, ?_⟩
    have hsome : tick = true ∨ cfgWr = true ∨ ack = true := by
      by_contra! hnone
      simp [hl, hnone] at hne
    rw [decode_operationBits hsome, Image.ofBits_toBits, hl]
  · obtain ⟨i, rfl⟩ := List.length_eq_one_iff.mp (halone.resolve_right hcomp)
    rw [List.forall_mem_singleton] at hcomp
    cases i with
    | reset img now =>
      exact ⟨{ Ports.zero with ctl := 0b1000#4, cfgIn := img.toBits, nowMs := now }, by
        rw [Machine.decode_of_rst (by simp [Ports.rst]), Image.ofBits_toBits]⟩
    | nop => exact ⟨Ports.zero, rfl⟩
    | tick | cfgWrite | persistAck => exact absurd rfl hcomp

/-- Settles O2: the line is some `decode p`, and the samples that encode it agree with `p` on every port that is
read. -/
theorem wellFormedLinesDecodeBack : Obligations.WellFormedLinesDecodeBack := by
  intro l hl
  obtain ⟨p, rfl⟩ := exists_decode_eq_of_wellFormed hl
  cases h : p.rst with
  | true =>
    rw [encode_decode_of_rst h, Machine.decode_of_rst h]
    exact Machine.decode_of_rst (by simp [Ports.rst])
  | false =>
    rw [encode_decode_of_not_rst h]
    symm
    refine Machine.decode_congr rfl (fun hread => ?_) (fun ⟨_, htick⟩ => ?_) (fun hread => ?_)
    · simp only [hread.resolve_left (by simp [h]), if_true]
    · simp only [htick, Bool.true_and, and_self]
    · simp only [hread.resolve_left (by simp [h]), if_true]

/-! #### Reads of the record (20_memory.md R62, R63) -/

theorem Image.memRead_of_le (img : Image) {a n : Nat} (h : a + n ≤ 18) :
    img.memRead a n = some ((img.bytes.drop a).take n) :=
  if_pos h

/-- Settles O7: a read is a slice of the bytes, and a 2-byte field as a number is its low byte and 256 times the high
one. -/
theorem recordReadsGiveBytesInOrder : Obligations.RecordReadsGiveBytesInOrder := by
  intro img
  refine ⟨fun a n h => ⟨_, img.memRead_of_le h, ?length, fun k hk => ?byte⟩, fun a n h => if_neg (by omega),
    ⟨_, _, rfl, littleEndian_toNat _ _⟩, ⟨_, _, rfl, littleEndian_toNat _ _⟩⟩
  case length =>
    rw [List.length_take, List.length_drop, img.bytes_length]
    omega
  case byte => rw [List.getElem?_take_of_lt hk, List.getElem?_drop]

/-- Settles O8: the product of a 16-bit number and 1000 fits. -/
theorem timeoutProductIsExact : Obligations.TimeoutProductIsExact := by
  intro img
  have htmo := img.tmo.isLt
  have hms := Machine.tmoMs_toNat img
  omega

end Sys2Proof
end

section
/-! ### What the checksum finds (40_config_crc.md R121 to R123, R126)

One byte of R122's rule is injective in the register and in the byte, so two sequences that differ in one place have
different CRCs. -/

namespace Sys2Proof.Machine

/-! #### A fold that loses nothing -/

theorem foldl_injective {α β : Type} {f : α → β → α} (hf : ∀ b, Function.Injective (f · b)) (l : List β) :
    Function.Injective (l.foldl f) := by
  induction l with
  | nil => exact Function.injective_id
  | cons b l ih => exact fun a a' h => hf b (ih h)

/-- Lists that differ in at most one place, from the same start to the same end, do not differ at all. -/
theorem eq_of_foldl_eq_of_agree_off {α β : Type} {f : α → β → α} (hleft : ∀ b, Function.Injective (f · b))
    (hright : ∀ a, Function.Injective (f a)) {l l' : List β} (k : Nat) (hlen : l.length = l'.length)
    (hoff : ∀ j, j ≠ k → l[j]? = l'[j]?) {a : α} (hfold : l.foldl f a = l'.foldl f a) : l = l' := by
  induction l generalizing l' k a with
  | nil => exact (List.length_eq_zero_iff.mp hlen.symm).symm
  | cons b l ih =>
    obtain ⟨b', l', rfl⟩ := List.exists_cons_of_length_eq_add_one hlen.symm
    cases k with
    | zero =>
      have htail : l = l' := List.ext_getElem? fun j => hoff (j + 1) j.succ_ne_zero
      subst htail
      rw [hright a (foldl_injective hleft l hfold)]
    | succ k =>
      have hhead : b = b' := Option.some.inj (hoff 0 k.succ_ne_zero.symm)
      subst hhead
      have hlen' : l.length = l'.length := Nat.succ.inj hlen
      rw [ih k hlen' (fun j hj => hoff (j + 1) (by omega)) hfold]

/-! #### R122's rule -/

/-- The bit shifted out stands in bit 15 of the result, as 0xA001 has bit 15 set. -/
theorem crcBitReflected_getLsbD_last (c : Half) : (crcBitReflected c).getLsbD 15 = c.getLsbD 0 := by
  have htop : (c >>> 1).getLsbD 15 = false := by
    rw [BitVec.getLsbD_ushiftRight]
    exact BitVec.getLsbD_of_ge c _ (by omega)
  unfold crcBitReflected
  cases h : c.getLsbD 0 with
  | false => simp
  | true =>
    rw [if_pos rfl, BitVec.getLsbD_xor, htop]
    decide

theorem crcBitReflected_injective : Function.Injective crcBitReflected := by
  intro c c' h
  have hlast : c.getLsbD 0 = c'.getLsbD 0 := by
    rw [← crcBitReflected_getLsbD_last, h, crcBitReflected_getLsbD_last]
  have hshift : c >>> 1 = c' >>> 1 := by
    unfold crcBitReflected at h
    rw [hlast] at h
    split at h
    · exact (BitVec.xor_left_inj _).mp h
    · exact h
  apply BitVec.eq_of_getLsbD_eq
  intro i hi
  cases i with
  | zero => exact hlast
  | succ i =>
    have hbit := congrArg (BitVec.getLsbD · i) hshift
    simpa only [BitVec.getLsbD_ushiftRight, Nat.add_comm 1 i] using hbit

theorem applyN_injective {α : Type} {f : α → α} (hf : Function.Injective f) (n : Nat) :
    Function.Injective (applyN n f) := by
  induction n with
  | zero => exact Function.injective_id
  | succ n ih => exact fun a a' h => hf (ih h)

theorem crcByteReflected_injective_left (b : Byte) : Function.Injective (crcByteReflected · b) := by
  intro c c' h
  exact (BitVec.xor_left_inj _).mp (applyN_injective crcBitReflected_injective 8 h)

theorem crcByteReflected_injective_right (c : Half) : Function.Injective (crcByteReflected c) := by
  intro b b' h
  have hwide : b.setWidth 16 = b'.setWidth 16 :=
    (BitVec.xor_right_inj _).mp (applyN_injective crcBitReflected_injective 8 h)
  have hnarrow := congrArg (BitVec.setWidth 8) hwide
  simpa using hnarrow

theorem eq_of_crc16Modbus_eq {l l' : List Byte} (k : Nat) (hlen : l.length = l'.length)
    (hoff : ∀ j, j ≠ k → l[j]? = l'[j]?) (hcrc : crc16Modbus l = crc16Modbus l') : l = l' :=
  eq_of_foldl_eq_of_agree_off crcByteReflected_injective_left crcByteReflected_injective_right k hlen hoff
    ((BitVec.xor_left_inj _).mp hcrc)

/-! #### The bytes of an image -/

theorem covered_getElem? (img : Image) (j : Nat) :
    img.covered[j]? = if j < 16 then img.bytes[j]? else none :=
  List.getElem?_take

theorem littleEndian_injective {lo hi lo' hi' : Byte} (h : littleEndian lo hi = littleEndian lo' hi') :
    lo = lo' ∧ hi = hi' := by
  have hnum := congrArg BitVec.toNat h
  rw [littleEndian_toNat, littleEndian_toNat] at hnum
  have hlo := lo.isLt
  have hlo' := lo'.isLt
  exact ⟨BitVec.eq_of_toNat_eq (by omega), BitVec.eq_of_toNat_eq (by omega)⟩

/-- The 16 covered bytes and the checksum are the whole image (30_encoding.md R90, R91). -/
theorem eq_of_covered_eq_of_ck_eq {img img' : Image} (hcov : img.covered = img'.covered) (hck : img.ck = img'.ck) :
    img = img' := by
  obtain ⟨hlo, hhi⟩ := littleEndian_injective hck
  have hbytes : img.bytes = img'.bytes := by
    calc img.bytes = img.covered ++ [img.checksumLo, img.checksumHi] := rfl
      _ = img'.covered ++ [img'.checksumLo, img'.checksumHi] := by rw [hcov, hlo, hhi]
      _ = img'.bytes := rfl
  have himg : Image.ofBytes img.bytes = Image.ofBytes img'.bytes := congrArg _ hbytes
  exact Option.some.inj himg

theorem ck_eq_of_bytes_eq {img img' : Image} (h16 : img.bytes[16]? = img'.bytes[16]?)
    (h17 : img.bytes[17]? = img'.bytes[17]?) : img.ck = img'.ck :=
  congrArg₂ littleEndian (Option.some.inj h16) (Option.some.inj h17)

/-- Settles O12: of two valid images that differ in one byte at most, either that byte is not covered and the CRCs are
equal, so the checksums are, or the checksums are equal, so the CRCs are; in both cases the images are. -/
theorem singleByteCorruptionIsDetected : Obligations.SingleByteCorruptionIsDetected := by
  intro img img' k hvalid hne hoff
  rw [← Bool.not_eq_true]
  intro hvalid'
  rw [valid_iff_crc16Modbus] at hvalid hvalid'
  apply hne
  by_cases hk : k < 16
  · have hck : img.ck = img'.ck := ck_eq_of_bytes_eq (hoff 16 (by omega)) (hoff 17 (by omega))
    have hoff' (j : Nat) (hj : j ≠ k) : img.covered[j]? = img'.covered[j]? := by
      rw [covered_getElem?, covered_getElem?, hoff j hj]
    have hcrc : crc16Modbus img.covered = crc16Modbus img'.covered := by rw [hvalid, hvalid', hck]
    have hcov : img.covered = img'.covered := eq_of_crc16Modbus_eq k rfl hoff' hcrc
    exact eq_of_covered_eq_of_ck_eq hcov hck
  · have hcov : img.covered = img'.covered := List.ext_getElem? fun j => by
      rw [covered_getElem?, covered_getElem?]
      split
      · exact hoff j (by omega)
      · rfl
    exact eq_of_covered_eq_of_ck_eq hcov (hvalid.symm.trans (hcov ▸ hvalid'))

/-- Settles O9: bit reversal takes the one rule to the other. -/
theorem genericCrcWithModbusTupleIsModbus : Obligations.GenericCrcWithModbusTupleIsModbus :=
  crc16Generic_modbus

/-- Settles O10: R122's rule evaluated; the block's CRC is the same. -/
theorem crcCheckValues : Obligations.CrcCheckValues := by
  have hdigits : crc16Modbus [0x31, 0x32, 0x33, 0x34, 0x35, 0x36, 0x37, 0x38, 0x39] = 0x4B37#16 := by decide +kernel
  refine ⟨hdigits, (crc16_eq_crc16Modbus _).trans hdigits, ?_, ?_, ?_⟩ <;> decide +kernel

theorem defaultImage_valid : defaultImage.valid = true := Image.withChecksum_valid _

/-- Settles O13: the bytes by evaluation, the validity because the encoder writes the checksum. -/
theorem defaultImageIsTheListedBytesAndValid : Obligations.DefaultImageIsTheListedBytesAndValid :=
  ⟨by decide +kernel, defaultImage_valid⟩

end Sys2Proof.Machine
end

section
/-! ### A cycle seen from the registers

Where the registers after a cycle come from: RESET writes all of them; otherwise the ten that a TICK writes are the
TICK's, or stay, and the configuration is replaced or stays. Invariants of steps and of runs follow from these cases. -/

namespace Sys2Proof.Machine

/-! #### The registers of a cycle without RESET (45_operations.md R256) -/

/-- The state after the TICK of a cycle, if it has one: the registers that TICK writes are final. -/
def State.afterTick (s : State) (p : Ports) : State :=
  if p.tick then tickResult p.keyN p.rtsN p.nowMs s else s

theorem afterTick_of_tick {p : Ports} (h : p.tick = true) (s : State) :
    s.afterTick p = tickResult p.keyN p.rtsN p.nowMs s := if_pos h

theorem afterTick_of_not_tick {p : Ports} (h : p.tick = false) (s : State) : s.afterTick p = s := by
  simp [State.afterTick, h]

theorem tickResult_cfgImg (keyN rtsN : Bool) (now : Millis) (s : State) :
    (tickResult keyN rtsN now s).cfgImg = s.cfgImg := by
  rw [tickResult_eq]

theorem afterTick_cfgImg (s : State) (p : Ports) : (s.afterTick p).cfgImg = s.cfgImg := by
  unfold State.afterTick
  split
  · exact tickResult_cfgImg _ _ _ s
  · rfl

/-- The configuration after a cycle without RESET: replaced by a valid image of a CFG_WRITE, or kept (R130). -/
def State.configAfter (s : State) (p : Ports) : Image :=
  if p.cfgWr && (Image.ofBits p.cfgIn).valid then Image.ofBits p.cfgIn else s.cfgImg

/-- After a cycle without RESET the ten registers of TICK are those of `afterTick`. -/
theorem commitTogether_of_not_rst {p : Ports} (h : p.rst = false) (s : State) :
    s.commitTogether p =
      { s.afterTick p with
        cfgImg := s.configAfter p
        cfgRejected := if p.cfgWr then !(Image.ofBits p.cfgIn).valid else s.cfgRejected
        persistReq := s.persistReq && !p.persistAck } := by
  simp only [State.commitTogether, h, State.afterTick, State.configAfter, tickResult_eq, gatedKey]
  cases p.tick <;> rfl

theorem commitTogether_cfgImg {p : Ports} (h : p.rst = false) (s : State) :
    (s.commitTogether p).cfgImg = s.configAfter p := by
  rw [commitTogether_of_not_rst h]

/-- Settles O38: without RESET the ten registers are those of `afterTick`, which does not read the CFG_WRITE bit. -/
theorem tickNeverSeesItsOwnCyclesConfiguration : Obligations.TickNeverSeesItsOwnCyclesConfiguration := by
  intro s p hrst htick
  have hrst' : ({ p with ctl := p.ctl &&& 0b1101#4 } : Ports).rst = false := by
    rw [Ports.rst, BitVec.getLsbD_and]
    exact (Bool.and_true _).trans hrst
  have htick' : ({ p with ctl := p.ctl &&& 0b1101#4 } : Ports).tick = true := by
    rw [Ports.tick, BitVec.getLsbD_and]
    exact (Bool.and_true _).trans htick
  refine ⟨_, _, drive_singleton _ s, drive_singleton _ s, ?_⟩
  rw [commitTogether_of_not_rst hrst, commitTogether_of_not_rst hrst', afterTick_of_tick htick,
    afterTick_of_tick htick']
  exact ⟨rfl, rfl, rfl, rfl, rfl, rfl, rfl, rfl, rfl, rfl⟩

/-! #### The configuration of a cycle (40_config_crc.md R127, R130) -/

theorem configAfter_of_accepted {p : Ports} (hwr : p.cfgWr = true) (hvalid : (Image.ofBits p.cfgIn).valid = true)
    (s : State) : s.configAfter p = Image.ofBits p.cfgIn := by
  simp [State.configAfter, hwr, hvalid]

theorem commitTogether_cfgImg_of_keepsConfig {p : Ports} (h : keepsConfig p) (s : State) :
    (s.commitTogether p).cfgImg = s.cfgImg := by
  obtain ⟨hrst, hwr⟩ := h
  simp [commitTogether_cfgImg hrst, State.configAfter, hwr]

theorem loadAtReset_valid (img : Image) : (loadAtReset img).1.valid = true := by
  cases h : img.valid with
  | false => rw [loadAtReset_of_invalid h, defaultImage_valid]
  | true => rw [loadAtReset_of_valid h, h]

theorem commitTogether_configValid {s : State} (h : s.configValid) (p : Ports) :
    (s.commitTogether p).configValid := by
  unfold State.configValid at h ⊢
  cases hrst : p.rst with
  | true => rw [commitTogether_of_rst hrst, State.resetRegisters_cfgImg, loadAtReset_valid]
  | false =>
    rw [commitTogether_cfgImg hrst, State.configAfter]
    split
    case isTrue hacc => exact (Bool.and_eq_true_iff.mp hacc).2
    case isFalse => exact h

theorem commitTogether_cfgImg_of_accepted {p : Ports} (hvalid : (Image.ofBits p.cfgIn).valid = true)
    (h : p.rst = true ∨ p.cfgWr = true) (s : State) : (s.commitTogether p).cfgImg = Image.ofBits p.cfgIn := by
  cases hrst : p.rst with
  | true => rw [commitTogether_of_rst hrst, State.resetRegisters_cfgImg, loadAtReset_of_valid hvalid]
  | false =>
    have hwr : p.cfgWr = true := h.resolve_left (by simp [hrst])
    rw [commitTogether_cfgImg hrst, configAfter_of_accepted hwr hvalid]

/-! #### Steps and runs -/

theorem eq_of_step {s t : State} (h : step s = .next t) : t = (s.commitTogether s.ports).nextPorts := by
  rw [step_eq_commitTogether] at h
  exact (Host.Outcome.next.inj h).symm

/-- What every cycle of a run keeps, the run keeps. -/
theorem drive_keeps {P : State → Prop} {ps : List Ports}
    (hcycle : ∀ p ∈ ps, ∀ s, P s → P ((s.commitTogether p).withPorts p [])) {s : State} (hs : P s) :
    ∃ t, drive ps s = .next t ∧ P t := by
  induction ps generalizing s with
  | nil => exact ⟨s, rfl, hs⟩
  | cons p ps ih =>
    obtain ⟨hp, hps⟩ := List.forall_mem_cons.mp hcycle
    rw [drive_cons]
    exact ih hps (hp s hs)

theorem drive_append {ps : List Ports} {s t : State} (h : drive ps s = .next t) (qs : List Ports) :
    drive (ps ++ qs) s = drive qs t := by
  induction ps generalizing s with
  | nil => rw [← Host.Outcome.next.inj h, List.nil_append]
  | cons p ps ih =>
    rw [drive_cons] at h
    rw [List.cons_append, drive_cons, ih h]

/-- Settles O34: `step` is `cycle`, which performs the decoded line. -/
theorem stepRunsTheDecodedOperations : Obligations.StepRunsTheDecodedOperations := by
  have hstep (s t : State) (h : performAll (decode s.ports) s = .next t) : step s = .next t.nextPorts := by
    rw [step, cycle, h]
  refine ⟨fun s t i _ hdec hexec => hstep s t ?_, hstep, fun t h => ?_, fun t p rest h => ?_⟩
  · simp only [hdec, performAll, hexec]
  · rw [State.nextPorts, h]
  · rw [State.nextPorts, h]

/-- Settles O42: `loadAtReset` answers valid images only, and CFG_WRITE accepts valid images only. -/
theorem configurationStaysValid : Obligations.ConfigurationStaysValid := by
  intro s t hs hstep
  rw [eq_of_step hstep, State.configValid, State.nextPorts_cfgImg]
  exact commitTogether_configValid hs s.ports

/-- Settles O40: the first cycle makes `cfg_in` the configuration, and the others keep the configuration. -/
theorem acceptedImageIsOfferedUnchanged : Obligations.AcceptedImageIsOfferedUnchanged := by
  intro s p ps hvalid hload hkeep
  have hfirst : ((s.commitTogether p).withPorts p []).cfgImg = Image.ofBits p.cfgIn :=
    commitTogether_cfgImg_of_accepted hvalid hload s
  obtain ⟨t, ht, hcfg⟩ := drive_keeps (P := fun t => t.cfgImg = Image.ofBits p.cfgIn)
    (fun q hq u hu => (commitTogether_cfgImg_of_keepsConfig (hkeep q hq) u).trans hu) hfirst
  rw [drive_cons]
  refine ⟨t, ht, ?_⟩
  rw [State.outputs, hcfg, Image.toBits_ofBits]

/-! #### RESET (70_reset_and_hazards.md R320 to R322) -/

/-- A RESET cycle writes every register and is given its own samples: nothing of the state before it is left. -/
theorem drive_singleton_of_rst {p : Ports} (h : p.rst = true) (s s' : State) : drive [p] s = drive [p] s' := by
  rw [drive_singleton, drive_singleton, commitTogether_of_rst h, commitTogether_of_rst h]
  rfl

/-- Settles O19: the last RESET cycle leaves the same state from wherever the earlier ones end. -/
theorem heldResetForgetsAllButItsLastCycle : Obligations.HeldResetForgetsAllButItsLastCycle := by
  intro ps p s s' _ hp
  obtain ⟨t, ht⟩ := everyStimulusCompletes ps s
  rw [drive_append ht, drive_singleton_of_rst hp]

/-- The state after reset is that of a RESET with the default image at time 0 (log entry 3). -/
theorem reset_eq_resetRegisters (s : State) :
    State.reset = (s.resetRegisters defaultImage 0).withPorts idlePorts [] := by
  rw [State.resetRegisters, loadAtReset_of_valid defaultImage_valid]
  rfl

theorem withPorts_withPorts (s : State) (x y : Ports) (u : List Ports) :
    s.withPorts y u = { s.withPorts x u with ports := y } := rfl

/-- A RESET cycle with an image on the port (30_encoding.md R100). -/
theorem drive_reset (img : Image) (k r : Bool) (now : Millis) (s : State) :
    drive [⟨0b1000#4, img.toBits, k, r, now⟩] s =
      .next ((s.resetRegisters img now).withPorts ⟨0b1000#4, img.toBits, k, r, now⟩ []) := by
  have hrst : (Ports.mk 0b1000#4 img.toBits k r now).rst = true := by simp [Ports.rst]
  rw [drive_singleton, commitTogether_of_rst hrst, Image.ofBits_toBits]

/-- Settles O20: the default image on the port reads back as itself and is valid, so RESET loads it. -/
theorem resetStateIsAResetCyclesResult : Obligations.ResetStateIsAResetCyclesResult := by
  intro s
  exact ⟨_, drive_reset defaultImage true true 0 s, (reset_eq_resetRegisters s).trans (withPorts_withPorts _ _ _ _)⟩

end Sys2Proof.Machine
end

section
/-! ### What every step keeps (42_combiner.md, 43_timeout_guard.md, 44_sequencer.md)

Each invariant is shown for the sequencer, through `sequence_cases`, and then for a cycle: RESET establishes it, and
otherwise the cycle's TICK is all that touches the registers it speaks of. -/

namespace Sys2Proof.Machine

/-! #### The sequencer's state -/

theorem sequence_named {s : State} (h : s.seq.named = true) (key : Bool) (now : Millis) :
    (s.sequence key now).seq.named = true := by
  cases sequence_cases s key now with
  | absorbed c hs ht => simp [hs, Seq.named] at h
  | idle hs hk ht | holdT i hs hk he ht | holdTx hs hk ht | holdR i hs hk he ht =>
    rw [ht]
    exact h
  | keyed hs hk ht | reverse i hs hk ht | forward i j hs hk he hj ht | transmit hs hk he ht | unkeyed hs hk ht
  | rekeyed i hs hk ht | back i j hs hk he hj ht | home hs hk he ht =>
    rw [ht]
    rfl

theorem not_edge_released_tx (q : Seq) (e : Bool) : ¬ Edge q false e .tx := nofun

/-- Without a key Tx is left, and nothing leads there (44_sequencer.md R217). -/
theorem sequence_released_ne_tx (s : State) (now : Millis) : (s.sequence false now).seq ≠ .tx := by
  intro htx
  obtain hedge | ⟨hstay, hnone⟩ := sequence_takes_edge_or_stays s false now
  · exact not_edge_released_tx _ _ (htx ▸ hedge)
  · exact hnone _ ((htx.symm.trans hstay) ▸ Edge.unkeyed _)

theorem tickResult_flag_ne_tx {keyN rtsN : Bool} {now : Millis} {s : State}
    (h : (tickResult keyN rtsN now s).gFlag = true) : (tickResult keyN rtsN now s).seq ≠ .tx := by
  rw [tickResult_seq, tickResult_obsKey_of_gFlag h]
  exact sequence_released_ne_tx s now

/-- CTS rises on the way into Tx and falls on the way out (44_sequencer.md R217, R218). -/
theorem sequence_cts_only_tx {s : State} (h : s.cts = true → s.seq = .tx) (key : Bool) (now : Millis)
    (hcts : (s.sequence key now).cts = true) : (s.sequence key now).seq = .tx := by
  cases sequence_cases s key now with
  | transmit hs hk he ht => rw [ht, State.enterTx_seq]
  | idle hs hk ht | unkeyed hs hk ht => simp [ht] at hcts
  | holdT i hs hk he ht | holdTx hs hk ht | holdR i hs hk he ht | absorbed c hs ht =>
    rw [ht] at hcts ⊢
    exact h hcts
  | keyed hs hk ht | reverse i hs hk ht | forward i j hs hk he hj ht | rekeyed i hs hk ht | back i j hs hk he hj ht
  | home hs hk he ht =>
    have hsame : s.cts = true := by simpa [ht] using hcts
    simp [hs] at h
    simp [h] at hsame

/-! #### Invariants of the registers that TICK writes -/

/-- `P` reads none of the registers that a cycle without RESET writes after its TICK. -/
def ReadsTickRegisters (P : State → Prop) : Prop :=
  ∀ (s : State) (img : Image) (rejected req : Bool) (x : Ports) (u : List Ports),
    P s → P { s with cfgImg := img, cfgRejected := rejected, persistReq := req, ports := x, upcoming := u }

theorem nextPorts_eq (s : State) : ∃ x u, s.nextPorts = s.withPorts x u := by
  unfold State.nextPorts
  split
  · exact ⟨s.ports, s.upcoming, rfl⟩
  · exact ⟨_, _, rfl⟩

/-- Such a property is kept by every step when RESET establishes it and TICK keeps it. -/
theorem step_keeps {P : State → Prop} (hreads : ReadsTickRegisters P)
    (hreset : ∀ (s : State) (img : Image) (now : Millis), P (s.resetRegisters img now))
    (htick : ∀ (keyN rtsN : Bool) (now : Millis) (s : State), P s → P (tickResult keyN rtsN now s)) {s t : State}
    (hs : P s) (hstep : step s = .next t) : P t := by
  have hafter : P (s.afterTick s.ports) := by
    unfold State.afterTick
    split
    · exact htick _ _ _ s hs
    · exact hs
  have hcycle (x : Ports) (u : List Ports) : P ((s.commitTogether s.ports).withPorts x u) := by
    cases hrst : s.ports.rst with
    | true =>
      rw [commitTogether_of_rst hrst]
      exact hreads (s.resetRegisters _ _) _ _ _ x u (hreset s _ _)
    | false =>
      rw [commitTogether_of_not_rst hrst]
      exact hreads (s.afterTick s.ports) _ _ _ x u hafter
  obtain ⟨x, u, hnext⟩ := nextPorts_eq (s.commitTogether s.ports)
  rw [eq_of_step hstep, hnext]
  exact hcycle x u

/-- Settles O44: CTS moves on the way into and out of Tx, and in Rx, where it is cleared. -/
theorem ctsIsAssertedOnlyInTx : Obligations.CtsIsAssertedOnlyInTx := by
  intro s t hs hstep
  refine step_keeps (P := fun s => s.cts = true → s.seq = .tx) ?_ ?_ ?_ hs hstep
  · exact fun _ _ _ _ _ _ h => h
  · exact fun s img now h => by simp at h
  · exact fun keyN rtsN now s h => sequence_cts_only_tx h _ now

/-- Settles O45: a TICK stores the gated key, and clears hold and flag when released. -/
theorem observationStaysInAgreement : Obligations.ObservationStaysInAgreement := by
  intro s t hs hstep
  refine step_keeps (P := State.observationAgrees) ?_ ?_ ?_ hs hstep
  · exact fun _ _ _ _ _ _ h => h
  · exact fun s img now => ⟨rfl, fun _ => ⟨rfl, rfl⟩⟩
  · refine fun keyN rtsN now s _ => ⟨rfl, fun hreleased => ?_⟩
    rw [tickResult_obsCombined] at hreleased
    rw [tickResult_gHold, tickResult_gFlag, hreleased]
    exact ⟨guardHoldNext_released now s, guardFlagNext_released now s⟩

/-- Settles O46: the tick that has the flag set has `key = 0`, and without a key no tick ends in Tx. -/
theorem timeoutFlagNeverStandsInTx : Obligations.TimeoutFlagNeverStandsInTx := by
  intro s t hs hstep
  refine step_keeps (P := fun s => s.gFlag = true → s.seq ≠ .tx) ?_ ?_ ?_ hs hstep
  · exact fun _ _ _ _ _ _ h => h
  · exact fun s img now h => by simp at h
  · exact fun keyN rtsN now s _ => tickResult_flag_ne_tx

/-- Settles O47: no row of the table leads from a named state to an unused code. -/
theorem namedStatesStayNamed : Obligations.NamedStatesStayNamed := by
  intro s t hs hstep
  refine step_keeps (P := fun s => s.seq.named = true) ?_ ?_ ?_ hs hstep
  · exact fun _ _ _ _ _ _ h => h
  · exact fun s img now => rfl
  · exact fun keyN rtsN now s h => sequence_named h _ now

/-! #### The outputs follow the sequence (44_sequencer.md R226) -/

/-- There are four relays: below 5 is below 4. -/
theorem relaysActiveBelow_five_iff (s : State) : s.relaysActiveBelow 5 ↔ s.relaysActiveBelow 4 := by
  refine forall_congr' fun i => ?_
  rw [if_pos i.isLt, if_pos (i.isLt.trans (by decide))]

/-- R226 in one line: the relays below the sequencer's rank are transmit-active, and CTS is `cts_en` in Tx. -/
theorem outputsFollow_iff (s : State) :
    s.outputsFollow ↔ s.seq.named = true ∧ s.relaysActiveBelow s.seq.rank ∧
      s.cts = (decide (s.seq = .tx) && s.cfgImg.ctsEn) := by
  unfold State.outputsFollow
  cases hs : s.seq <;> simp [Seq.named, Seq.rank, relaysActiveBelow_five_iff]

/-- What R226 speaks of is the sequencer's state, the relays, CTS, and `pol` and `cts_en` of the configuration. -/
theorem outputsFollow_congr {s t : State} (hseq : t.seq = s.seq) (hrelay : t.relay = s.relay) (hcts : t.cts = s.cts)
    (hpol : ∀ i, t.cfgImg.pol i = s.cfgImg.pol i) (hen : t.cfgImg.ctsEn = s.cfgImg.ctsEn) (h : s.outputsFollow) :
    t.outputsFollow := by
  rw [outputsFollow_iff] at h ⊢
  simpa only [State.relaysActiveBelow, hseq, hrelay, hcts, hpol, hen] using h

section
variable {s : State} {i : Fin 4}

theorem relaysActiveBelow_driveActive {m : Nat} (h : s.relaysActiveBelow m) (hm : i.val = m ∨ m = i.val + 1) :
    (s.driveRelay i (!s.cfgImg.pol i)).relaysActiveBelow (i.val + 1) := by
  intro j
  rw [State.driveRelay_relay, setRelayBit_getLsbD, State.driveRelay_cfgImg]
  by_cases hji : j = i
  · simp [hji]
  · have hval : j.val ≠ i.val := Fin.val_ne_of_ne hji
    have hiff : j.val < i.val + 1 ↔ j.val < m := by omega
    simp only [hji, if_false, h j, hiff]

theorem relaysActiveBelow_driveIdle (h : s.relaysActiveBelow (i.val + 1)) :
    (s.driveRelay i (s.cfgImg.pol i)).relaysActiveBelow i.val := by
  intro j
  rw [State.driveRelay_relay, setRelayBit_getLsbD, State.driveRelay_cfgImg]
  by_cases hji : j = i
  · simp [hji]
  · have hval : j.val ≠ i.val := Fin.val_ne_of_ne hji
    have hiff : j.val < i.val + 1 ↔ j.val < i.val := by omega
    simp only [hji, if_false, h j, hiff]

end

theorem relaysActiveBelow_zero_of_idle {s : State} (h : s.relay = s.cfgImg.idleRelays) : s.relaysActiveBelow 0 := by
  intro i
  rw [h, idleRelays_getLsbD]
  simp

theorem sequence_outputsFollow {s : State} (h : s.outputsFollow) (key : Bool) (now : Millis) :
    (s.sequence key now).outputsFollow := by
  obtain ⟨hnamed, hrelay, hcts⟩ := (outputsFollow_iff s).mp h
  cases sequence_cases s key now with
  | holdT i hs hk he ht | holdTx hs hk ht | holdR i hs hk he ht | absorbed c hs ht =>
    rw [ht]
    exact h
  | idle hs hk ht =>
    rw [ht, outputsFollow_iff, State.redriveIdle_seq, hs]
    exact ⟨rfl, relaysActiveBelow_zero_of_idle rfl, rfl⟩
  | keyed hs hk ht =>
    rw [hs] at hrelay hcts
    rw [ht]
    exact ⟨relaysActiveBelow_driveActive hrelay (.inl rfl), hcts⟩
  | reverse i hs hk ht =>
    rw [hs] at hrelay hcts
    rw [ht]
    exact ⟨hrelay, hcts⟩
  | forward i j hs hk he hj ht =>
    rw [hs] at hrelay hcts
    rw [ht]
    exact ⟨relaysActiveBelow_driveActive hrelay (.inl hj), hcts⟩
  | transmit hs hk he ht =>
    rw [hs] at hrelay hcts
    rw [ht]
    refine ⟨hrelay, ?_⟩
    rw [enterTx_cts_eq_or, hcts]
    simp
  | unkeyed hs hk ht =>
    rw [hs] at hrelay
    rw [ht]
    exact ⟨(relaysActiveBelow_five_iff s).mp hrelay, rfl⟩
  | rekeyed i hs hk ht =>
    rw [hs] at hrelay hcts
    rw [ht]
    exact ⟨relaysActiveBelow_driveActive hrelay (.inr rfl), hcts⟩
  | back i j hs hk he hj ht =>
    rw [hs] at hrelay hcts
    rw [ht]
    have hidle := relaysActiveBelow_driveIdle hrelay
    rw [hj] at hidle
    exact ⟨hidle, hcts⟩
  | home hs hk he ht =>
    rw [hs] at hrelay hcts
    rw [ht]
    exact ⟨relaysActiveBelow_driveIdle hrelay, hcts⟩

theorem resetRegisters_outputsFollow (s : State) (img : Image) (now : Millis) :
    (s.resetRegisters img now).outputsFollow :=
  ⟨relaysActiveBelow_zero_of_idle rfl, rfl⟩

theorem afterTick_outputsFollow {s : State} (h : s.outputsFollow) (p : Ports) : (s.afterTick p).outputsFollow := by
  unfold State.afterTick
  split
  · exact outputsFollow_congr rfl rfl rfl (fun _ => rfl) rfl
      (sequence_outputsFollow h (tickResult p.keyN p.rtsN p.nowMs s).obsKey p.nowMs)
  · exact h

/-- What `outputFieldsKept` leaves of a replacement (44_sequencer.md R226). -/
theorem configAfter_fields {s : State} {p : Ports} (hrst : p.rst = false) (h : s.outputFieldsKept p) :
    (∀ i, (s.configAfter p).pol i = s.cfgImg.pol i) ∧ (s.configAfter p).ctsEn = s.cfgImg.ctsEn := by
  unfold State.configAfter
  split
  case isTrue hacc =>
    obtain ⟨hwr, hvalid⟩ := Bool.and_eq_true_iff.mp hacc
    exact h hrst hwr hvalid
  case isFalse => exact ⟨fun _ => rfl, rfl⟩

theorem commitTogether_outputsFollow {s : State} {p : Ports} (h : s.outputsFollow) (hkept : s.outputFieldsKept p) :
    (s.commitTogether p).outputsFollow := by
  cases hrst : p.rst with
  | true =>
    rw [commitTogether_of_rst hrst]
    exact resetRegisters_outputsFollow s _ _
  | false =>
    obtain ⟨hpol, hen⟩ := configAfter_fields hrst hkept
    rw [← afterTick_cfgImg s p] at hpol hen
    rw [commitTogether_of_not_rst hrst]
    exact outputsFollow_congr (s := s.afterTick p) rfl rfl rfl hpol hen (afterTick_outputsFollow h p)

/-- Settles O43: the sequencer keeps R226 row by row, and a replacement that keeps `pol` and `cts_en` does not
enter it. -/
theorem outputsFollowTheSequence : Obligations.OutputsFollowTheSequence := by
  intro s t hs hkept hstep
  obtain ⟨x, u, hnext⟩ := nextPorts_eq (s.commitTogether s.ports)
  rw [eq_of_step hstep, hnext]
  exact outputsFollow_congr rfl rfl rfl (fun _ => rfl) rfl (commitTogether_outputsFollow hs hkept)

/-- Settles O49: the state is a RESET's result, and RESET establishes each invariant. -/
theorem resetStateMeetsTheInvariants : Obligations.ResetStateMeetsTheInvariants :=
  ⟨defaultImage_valid, ⟨relaysActiveBelow_zero_of_idle rfl, rfl⟩, ⟨rfl, fun _ => ⟨rfl, rfl⟩⟩, rfl, nofun, nofun⟩

end Sys2Proof.Machine
end

section
/-! ### The frame of TICK and true times (45_operations.md R256; 41_step_timer.md R152, R153) -/

namespace Sys2Proof.Machine

/-! #### What the sequencer leaves alone -/

theorem sequence_cts_moves {s : State} {key : Bool} {now : Millis} (h : (s.sequence key now).cts ≠ s.cts) :
    s.seq = .rx ∨ s.seq = .tx ∨ (s.sequence key now).seq = .tx := by
  cases sequence_cases s key now with
  | idle hs hk ht | keyed hs hk ht => exact .inl hs
  | unkeyed hs hk ht | holdTx hs hk ht => exact .inr (.inl hs)
  | transmit hs hk he ht => exact .inr (.inr (by rw [ht, State.enterTx_seq]))
  | reverse i hs hk ht | forward i j hs hk he hj ht | holdT i hs hk he ht | rekeyed i hs hk ht
  | back i j hs hk he hj ht | home hs hk he ht | holdR i hs hk he ht | absorbed c hs ht =>
    rw [ht] at h
    exact absurd rfl h

/-- A write to one relay moves no other. -/
theorem eq_of_setRelayBit_ne {w : BitVec 4} {i j : Fin 4} {b : Bool}
    (h : (setRelayBit w i b).getLsbD j.val ≠ w.getLsbD j.val) : j = i := by
  rw [setRelayBit_getLsbD] at h
  by_contra hji
  exact h (if_neg hji)

theorem sequence_relay_moves {s : State} {key : Bool} {now : Millis} {j : Fin 4} (hrx : s.seq ≠ .rx)
    (h : (s.sequence key now).relay.getLsbD j.val ≠ s.relay.getLsbD j.val) :
    ((s.sequence key now).seq = .txStep j ∧ s.seq ≠ .txStep j) ∨
      (s.seq = .rxStep j ∧ key = false ∧ s.expired now = true) := by
  cases sequence_cases s key now with
  | idle hs hk ht | keyed hs hk ht => exact absurd hs hrx
  | forward i m hs hk he hm ht =>
    rw [ht] at h ⊢
    obtain rfl := eq_of_setRelayBit_ne h
    exact .inl ⟨rfl, by simp [hs, Fin.ext_iff, hm]⟩
  | rekeyed i hs hk ht =>
    rw [ht] at h ⊢
    obtain rfl := eq_of_setRelayBit_ne h
    exact .inl ⟨rfl, by simp [hs]⟩
  | back i m hs hk he hm ht =>
    rw [ht] at h
    obtain rfl := eq_of_setRelayBit_ne h
    exact .inr ⟨hs, hk, he⟩
  | home hs hk he ht =>
    rw [ht] at h
    obtain rfl := eq_of_setRelayBit_ne h
    exact .inr ⟨hs, hk, he⟩
  | reverse i hs hk ht | transmit hs hk he ht | holdT i hs hk he ht | unkeyed hs hk ht | holdTx hs hk ht
  | holdR i hs hk he ht | absorbed c hs ht =>
    rw [ht] at h
    exact absurd rfl h

/-- Settles O32: TICK writes ten registers, and the sequencer says when CTS and a relay move. -/
theorem tickFrame : Obligations.TickFrame := by
  intro keyN rtsN now s
  refine ⟨_, exec_tick keyN rtsN now s, ?_⟩
  have hframe := sequence_frame s (tickResult keyN rtsN now s).obsKey now
  exact ⟨hframe.cfgImg, hframe.persistReq, hframe.cfgDefaulted, hframe.cfgRejected, hframe.ports, hframe.upcoming,
    sequence_cts_moves, fun j hrx => sequence_relay_moves hrx⟩

/-! #### True times -/

/-- The difference of two true times, each read modulo 2^w, is the true difference modulo 2^w. -/
theorem timeDiff_ofNat_toNat {w t0 t1 : Nat} (h : t0 ≤ t1) :
    (timeDiff (BitVec.ofNat w t1) (BitVec.ofNat w t0)).toNat = (t1 - t0) % 2 ^ w := by
  obtain ⟨d, rfl⟩ := Nat.exists_eq_add_of_le h
  have hcancel : BitVec.ofNat w (t0 + d) - BitVec.ofNat w t0 = BitVec.ofNat w d := by
    rw [Nat.add_comm, BitVec.ofNat_add, BitVec.add_sub_cancel]
  rw [timeDiff, hcancel, BitVec.toNat_ofNat, Nat.add_sub_cancel_left]

/-- Settles O33: `Elapsed` is a modular difference of true times. -/
theorem elapsedIsTrueBelowTheWrap : Obligations.ElapsedIsTrueBelowTheWrap := by
  intro s t0 t1 hle hstart
  have helapsed : (s.elapsed (BitVec.ofNat 32 t1)).toNat = (t1 - t0) % 2 ^ 32 := by
    rw [State.elapsed, hstart]
    exact timeDiff_ofNat_toNat hle
  refine ⟨helapsed, ?_, fun hlt => ?_⟩
  · rw [helapsed]
    exact Nat.mod_eq_iff_lt (by decide)
  · rw [expired_iff, helapsed, Nat.mod_eq_of_lt hlt]

end Sys2Proof.Machine
end

section
/-! ### Runs of any length (43_timeout_guard.md R197, R201; 44_sequencer.md R227, R228; 70_reset_and_hazards.md R336)

Through cycles that keep the configuration a property of TICK's registers needs a look at the ticks only. -/

namespace Sys2Proof.Machine

/-- The combined key reads `rts_en` of the configuration, and no other register (42_combiner.md R173). -/
theorem combined_congr {s t : State} (h : t.cfgImg = s.cfgImg) (keyN rtsN : Bool) :
    t.combined keyN rtsN = s.combined keyN rtsN := by
  simp only [State.combined, h]

/-- Cycles that keep the configuration keep what each of their ticks keeps under it. -/
theorem drive_keeps_of_ticks {P : State → Prop} (hreads : ReadsTickRegisters P) {s : State} {ps : List Ports}
    (hkeep : ∀ p ∈ ps, keepsConfig p)
    (htick : ∀ p ∈ ps, p.tick = true → ∀ u, u.cfgImg = s.cfgImg → P u → P (tickResult p.keyN p.rtsN p.nowMs u))
    (hs : P s) : ∃ t, drive ps s = .next t ∧ t.cfgImg = s.cfgImg ∧ P t := by
  refine drive_keeps (P := fun t => t.cfgImg = s.cfgImg ∧ P t) (fun p hp u hu => ?_) ⟨rfl, hs⟩
  obtain ⟨hcfg, hPu⟩ := hu
  refine ⟨(commitTogether_cfgImg_of_keepsConfig (hkeep p hp) u).trans hcfg, ?_⟩
  have hafter : P (u.afterTick p) := by
    cases ht : p.tick with
    | false => rwa [afterTick_of_not_tick ht]
    | true =>
      rw [afterTick_of_tick ht]
      exact htick p hp ht u hcfg hPu
  obtain ⟨hrst, -⟩ := hkeep p hp
  rw [commitTogether_of_not_rst hrst]
  exact hreads (u.afterTick p) _ _ _ p [] hafter

/-! #### Unused codes (70_reset_and_hazards.md R336) -/

theorem commitTogether_unused {s : State} {c : Fin 6} (hs : s.seq = .unused c) {p : Ports} (hrst : p.rst = false) :
    (s.commitTogether p).seq = .unused c := by
  rw [commitTogether_of_not_rst hrst, State.afterTick]
  split
  · rw [tickResult_unused _ _ _ hs]
    exact hs
  · exact hs

/-- Settles O48: a TICK does not move an unused code, and RESET does not ask where it starts. -/
theorem unusedCodeIsLeftByResetOnly : Obligations.UnusedCodeIsLeftByResetOnly := by
  intro ps s c hs
  obtain ⟨t, ht⟩ := everyStimulusCompletes ps s
  refine ⟨t, ht, fun hrst => ?stays, fun p hp => ⟨_, (drive_append ht [p]).trans (drive_singleton p t), ?leaves⟩⟩
  case stays =>
    obtain ⟨t', ht', hseq⟩ := drive_keeps (P := fun t => t.seq = .unused c)
      (fun p hp u hu => commitTogether_unused hu (hrst p hp)) hs
    rwa [Host.Outcome.next.inj (ht.symm.trans ht')]
  case leaves => rw [State.withPorts_seq, commitTogether_of_rst hp, State.resetRegisters_seq]

/-! #### A held source with Timeout 0, and with the flag set -/

section
variable {keyN rtsN : Bool} {s : State} (hheld : s.combined keyN rtsN = true) (now : Millis)
include hheld

theorem tickResult_gFlag_of_held : (tickResult keyN rtsN now s).gFlag = s.guardFlagNext true now := by
  rw [tickResult_gFlag, hheld]

/-- A held source's key is cut by the new flag alone (42_combiner.md R174). -/
theorem tickResult_obsKey_of_held :
    (tickResult keyN rtsN now s).obsKey = !(tickResult keyN rtsN now s).gFlag := by
  rw [tickResult_obsKey, tickResult_obsCombined, hheld, gatedKey, Bool.true_and]

theorem tickResult_gFlag_of_sticky (htmo : s.cfgImg.tmo ≠ 0) (hflag : s.gFlag = true) :
    (tickResult keyN rtsN now s).gFlag = true := by
  rw [tickResult_gFlag_of_held hheld, guardFlagNext_held_iff now htmo]
  exact .inl hflag

theorem tickResult_tx_inert (hs : s.seq = .tx) (htmo : s.cfgImg.tmo = 0) :
    (tickResult keyN rtsN now s).seq = .tx ∧ (tickResult keyN rtsN now s).cts = s.cts ∧
      (tickResult keyN rtsN now s).relay = s.relay := by
  have hkey : (tickResult keyN rtsN now s).obsKey = true := by
    rw [tickResult_obsKey_of_held hheld, tickResult_gFlag, guardFlagNext_of_tmo_zero htmo]
    rfl
  rw [tickResult_seq, tickResult_cts, tickResult_relay, hkey, sequence_tx_keyed now hs]
  exact ⟨hs, rfl, rfl⟩

end

theorem tickResult_rx_unkeyed {keyN rtsN : Bool} {now : Millis} {s : State} (hs : s.seq = .rx)
    (hkey : (tickResult keyN rtsN now s).obsKey = false) :
    (tickResult keyN rtsN now s).seq = .rx ∧ (tickResult keyN rtsN now s).cts = false ∧
      (tickResult keyN rtsN now s).relay = s.cfgImg.idleRelays := by
  rw [tickResult_seq, tickResult_cts, tickResult_relay, hkey, sequence_rx_released now hs]
  exact ⟨hs, rfl, rfl⟩

theorem tickResult_obsKey_of_released {keyN rtsN : Bool} {s : State} (hreleased : s.combined keyN rtsN = false)
    (now : Millis) : (tickResult keyN rtsN now s).obsKey = false := by
  rw [tickResult_obsKey, tickResult_obsCombined, hreleased, gatedKey, Bool.false_and]

/-- Settles O50: with Timeout 0 each held tick has the key, and a keyed TICK in Tx writes nothing of the sequencer's. -/
theorem inertGuardNeverLeavesTx : Obligations.InertGuardNeverLeavesTx := by
  intro ps s hs htmo hps
  refine (drive_keeps_of_ticks (P := fun t => t.seq = .tx ∧ t.cts = s.cts ∧ t.relay = s.relay)
    (fun _ _ _ _ _ _ h => h) (fun p hp => (hps p hp).1) ?ticks ⟨hs, rfl, rfl⟩).imp
    fun t ⟨ht, _, hkept⟩ => ⟨ht, hkept⟩
  case ticks =>
    intro p hp htick u hcfg ⟨hseq, hcts, hrelay⟩
    have hheld : u.combined p.keyN p.rtsN = true := (combined_congr hcfg _ _).trans ((hps p hp).2 htick)
    rw [← hcts, ← hrelay]
    exact tickResult_tx_inert hheld p.nowMs hseq (hcfg ▸ htmo)

/-- Settles O51: each held tick keeps a set flag, whose gate keeps the key 0, and an unkeyed TICK in Rx stays there. -/
theorem timeoutFlagIsStickyWhileHeld : Obligations.TimeoutFlagIsStickyWhileHeld := by
  intro ps s hflag hkey htmo hps
  refine (drive_keeps_of_ticks (P := fun t => t.gFlag = true ∧ t.obsKey = false ∧ (s.seq = .rx → t.seq = .rx))
    (fun _ _ _ _ _ _ h => h) (fun p hp => (hps p hp).1) ?ticks ⟨hflag, hkey, id⟩).imp
    fun t ⟨ht, _, hkept⟩ => ⟨ht, hkept⟩
  case ticks =>
    intro p hp htick u hcfg ⟨huflag, _, hrx⟩
    have hheld : u.combined p.keyN p.rtsN = true := (combined_congr hcfg _ _).trans ((hps p hp).2 htick)
    have hflag' := tickResult_gFlag_of_sticky hheld p.nowMs (hcfg ▸ htmo) huflag
    have hkey' := tickResult_obsKey_of_gFlag hflag'
    refine ⟨hflag', hkey', fun hs => ?_⟩
    obtain ⟨hseq, -⟩ := tickResult_rx_unkeyed (hrx hs) hkey'
    exact hseq

/-- A released TICK in Rx, in a cycle that keeps the configuration (44_sequencer.md R212). -/
theorem commitTogether_rx_released {p : Ports} (hkeep : keepsConfig p) (htick : p.tick = true) {s : State}
    (hs : s.seq = .rx) (hreleased : s.combined p.keyN p.rtsN = false) :
    (s.commitTogether p).seq = .rx ∧ (s.commitTogether p).cts = false ∧
      (s.commitTogether p).relay = s.cfgImg.idleRelays := by
  obtain ⟨hrst, -⟩ := hkeep
  rw [commitTogether_of_not_rst hrst, afterTick_of_tick htick]
  exact tickResult_rx_unkeyed hs (tickResult_obsKey_of_released hreleased p.nowMs)

/-- Settles O57: the first tick re-drives the idle relays, and every later one does so again. -/
theorem releasedTicksInRxKeepRelaysIdle : Obligations.ReleasedTicksInRxKeepRelaysIdle := by
  intro ps s hs hne hps
  obtain ⟨p, ps, rfl⟩ := List.exists_cons_of_ne_nil hne
  obtain ⟨⟨hkeep, htick, hreleased⟩, hrest⟩ := List.forall_mem_cons.mp hps
  have hfirst := commitTogether_rx_released hkeep htick hs hreleased
  have hcfg : ((s.commitTogether p).withPorts p []).cfgImg = s.cfgImg :=
    commitTogether_cfgImg_of_keepsConfig hkeep s
  rw [drive_cons]
  refine (drive_keeps_of_ticks (s := (s.commitTogether p).withPorts p [])
    (P := fun t => t.seq = .rx ∧ t.cts = false ∧ t.relay = s.cfgImg.idleRelays) (fun _ _ _ _ _ _ h => h)
    (fun q hq => (hrest q hq).1) ?ticks hfirst).imp
    fun t ⟨ht, _, hseq, hcts, hrelay⟩ => ⟨ht, hseq, hcts, fun i => hrelay ▸ idleRelays_getLsbD s.cfgImg i⟩
  case ticks =>
    intro q hq _ u hu ⟨huseq, _⟩
    obtain ⟨-, -, hqreleased⟩ := hrest q hq
    have hucfg : u.cfgImg = s.cfgImg := hu.trans hcfg
    have hureleased : u.combined q.keyN q.rtsN = false := (combined_congr hucfg _ _).trans hqreleased
    rw [← hucfg]
    exact tickResult_rx_unkeyed huseq (tickResult_obsKey_of_released hureleased q.nowMs)

/-! #### The rank of the sequencer's state (44_sequencer.md R227) -/

/-- Along an edge of the graph the rank moves by one at most. -/
theorem edge_rank {q q' : Seq} {key e : Bool} (h : Edge q key e q') :
    q'.rank ≤ q.rank + 1 ∧ q.rank ≤ q'.rank + 1 := by
  cases h with
  | keyed | transmit | reverse | unkeyed | idle | rekeyed => simp [Seq.rank]
  | forward i j h | back i j h => simp [Seq.rank, h]

theorem sequence_rank (s : State) (key : Bool) (now : Millis) :
    (s.sequence key now).seq.rank ≤ s.seq.rank + 1 ∧ s.seq.rank ≤ (s.sequence key now).seq.rank + 1 := by
  obtain hedge | ⟨hstay, -⟩ := sequence_takes_edge_or_stays s key now
  · exact edge_rank hedge
  · simp [hstay]

/-- How many TICKs the cycles perform. -/
def tickCount (ps : List Ports) : Nat := (ps.filter performsTick).length

theorem tickCount_cons (p : Ports) (ps : List Ports) : tickCount (p :: ps) = tickCount [p] + tickCount ps := by
  unfold tickCount
  rw [← List.length_append, ← List.filter_append, List.singleton_append]

theorem commitTogether_rank {p : Ports} (hrst : p.rst = false) (s : State) :
    (s.commitTogether p).seq.rank ≤ s.seq.rank + tickCount [p] ∧
      s.seq.rank ≤ (s.commitTogether p).seq.rank + tickCount [p] := by
  rw [commitTogether_of_not_rst hrst]
  cases htick : p.tick with
  | false =>
    rw [afterTick_of_not_tick htick]
    exact ⟨Nat.le_add_right _ _, Nat.le_add_right _ _⟩
  | true =>
    have hcount : tickCount [p] = 1 := by simp [tickCount, performsTick, hrst, htick]
    rw [afterTick_of_tick htick, hcount]
    exact sequence_rank s _ _

/-- A RESET leads to rank 0, and any other cycle raises the rank by its TICK at most. -/
theorem drive_rank_le {ps : List Ports} {s t : State} (h : drive ps s = .next t) :
    t.seq.rank ≤ s.seq.rank + tickCount ps := by
  induction ps generalizing s with
  | nil =>
    rw [Host.Outcome.next.inj h]
    exact Nat.le_add_right _ _
  | cons p ps ih =>
    rw [drive_cons] at h
    have hrest := ih h
    rw [State.withPorts_seq] at hrest
    rw [tickCount_cons]
    cases hrst : p.rst with
    | true =>
      rw [commitTogether_of_rst hrst, State.resetRegisters_seq, Seq.rank] at hrest
      omega
    | false =>
      obtain ⟨hup, -⟩ := commitTogether_rank hrst s
      omega

theorem rank_le_of_drive {ps : List Ports} (hrst : ∀ p ∈ ps, p.rst = false) {s t : State}
    (h : drive ps s = .next t) : s.seq.rank ≤ t.seq.rank + tickCount ps := by
  induction ps generalizing s with
  | nil =>
    rw [Host.Outcome.next.inj h]
    exact Nat.le_add_right _ _
  | cons p ps ih =>
    obtain ⟨hp, hps⟩ := List.forall_mem_cons.mp hrst
    rw [drive_cons] at h
    have hrest := ih hps h
    rw [State.withPorts_seq] at hrest
    obtain ⟨-, hdown⟩ := commitTogether_rank hp s
    rw [tickCount_cons]
    omega

/-- Settles O56: Rx has rank 0 and Tx rank 5, and a cycle moves the rank by its TICK at most. -/
theorem fewerThanFiveTicksNeverCrossTheChain : Obligations.FewerThanFiveTicksNeverCrossTheChain := by
  intro ps s hfew
  obtain ⟨t, ht⟩ := everyStimulusCompletes ps s
  have hcount : tickCount ps < 5 := hfew
  refine ⟨t, ht, fun hs htx => ?_, fun hs hrst hrx => ?_⟩
  · have hup := drive_rank_le ht
    rw [hs, htx, Seq.rank, Seq.rank] at hup
    omega
  · have hdown := rank_le_of_drive hrst ht
    rw [hs, hrx, Seq.rank, Seq.rank] at hdown
    omega

end Sys2Proof.Machine
end

section
/-! ### Ticks of a held source at true times (43_timeout_guard.md R200, R201; 44_sequencer.md R227)

One TICK a cycle, at the true times of 70_reset_and_hazards.md R331: how long the source has been held, and how a served
dwell moves the sequencer one state along the chain, down to Rx or up to Tx. -/

namespace Sys2Proof.Machine

/-! #### A cycle of one TICK -/

/-- The state after the cycle `tickAt`. -/
def State.tickedAt (s : State) (keyN rtsN : Bool) (t : Nat) : State :=
  (tickResult keyN rtsN (BitVec.ofNat Config.clkW t) s).withPorts (tickAt keyN rtsN t) []

theorem commitTogether_tickAt (keyN rtsN : Bool) (t : Nat) (s : State) :
    s.commitTogether (tickAt keyN rtsN t) = tickResult keyN rtsN (BitVec.ofNat Config.clkW t) s := by
  have hdecode : decode (tickAt keyN rtsN t) = [.tick keyN rtsN (BitVec.ofNat Config.clkW t)] := by
    obtain ⟨-, -, -, -, -, htick, -⟩ :=
      controlVectorsSelectTheirOperations 0 keyN rtsN (BitVec.ofNat Config.clkW t)
    exact htick
  have hcycle := performAll_decode (tickAt keyN rtsN t) s
  rw [hdecode] at hcycle
  simp only [performAll, exec_tick] at hcycle
  exact (Host.Outcome.next.inj hcycle).symm

theorem drive_tickAt_cons (keyN rtsN : Bool) (t : Nat) (ps : List Ports) (s : State) :
    drive (tickAt keyN rtsN t :: ps) s = drive ps (s.tickedAt keyN rtsN t) := by
  rw [drive_cons, commitTogether_tickAt, State.tickedAt]

theorem drive_tickAt (keyN rtsN : Bool) (t : Nat) (s : State) :
    drive [tickAt keyN rtsN t] s = .next (s.tickedAt keyN rtsN t) :=
  drive_tickAt_cons keyN rtsN t [] s

/-- The sequencer acts on the key that the cycle stores (42_combiner.md R175). -/
theorem tickedAt_eq {keyN rtsN : Bool} {t : Nat} {s : State} {key : Bool}
    (hkey : (s.tickedAt keyN rtsN t).obsKey = key) :
    s.tickedAt keyN rtsN t =
      { s.sequence key (BitVec.ofNat Config.clkW t) with
        gHold := (s.tickedAt keyN rtsN t).gHold, gFlag := (s.tickedAt keyN rtsN t).gFlag
        gLast := BitVec.ofNat Config.clkW t, obsCombined := s.combined keyN rtsN, obsKey := key
        ports := tickAt keyN rtsN t, upcoming := [] } := by
  rw [← hkey]
  rfl

theorem tickedAt_cfgImg (keyN rtsN : Bool) (t : Nat) (s : State) :
    (s.tickedAt keyN rtsN t).cfgImg = s.cfgImg :=
  tickResult_cfgImg _ _ _ s

/-- A TICK keeps the configuration, so a held source is held at the next tick too. -/
theorem tickedAt_held {keyN rtsN : Bool} {s : State} (hheld : s.combined keyN rtsN = true) (t : Nat) :
    (s.tickedAt keyN rtsN t).combined keyN rtsN = true :=
  (combined_congr (tickedAt_cfgImg keyN rtsN t s) keyN rtsN).trans hheld

/-! #### The hold-duration (43_timeout_guard.md R192, R193, R200) -/

/-- At the true time `now` the guard counts a source held since `since`. -/
structure HeldSince (img : Image) (since now : Nat) (s : State) : Prop where
  cfgImg : s.cfgImg = img
  order : since ≤ now
  gLast : s.gLast = BitVec.ofNat Config.clkW now
  gHold : s.gHold.toNat = min (now - since) (2 ^ 32 - 1)
  gFlag : s.gFlag = true ↔ img.tmo ≠ 0 ∧ 1000 * img.tmo.toNat < now - since

/-- Times are told apart from the Timeout below the saturation point, which no Timeout reaches (R193). -/
theorem tmo_lt_saturated_iff (img : Image) (n : Nat) :
    1000 * img.tmo.toNat < min n (2 ^ 32 - 1) ↔ 1000 * img.tmo.toNat < n := by
  have htmo := img.tmo.isLt
  omega

theorem HeldSince.after_tick {img : Image} {since now t : Nat} {s : State} {keyN rtsN : Bool}
    (h : HeldSince img since now s) (hheld : s.combined keyN rtsN = true) (hle : now ≤ t)
    (hgap : t - now < 2 ^ Config.clkW) : HeldSince img since t (s.tickedAt keyN rtsN t) := by
  have horder := h.order
  have hdelta : (s.guardDelta (BitVec.ofNat Config.clkW t)).toNat = t - now := by
    rw [State.guardDelta, h.gLast, timeDiff_ofNat_toNat hle, Nat.mod_eq_of_lt hgap]
  have hhold : (s.guardHoldNext true (BitVec.ofNat Config.clkW t)).toNat = min (t - since) (2 ^ 32 - 1) := by
    rw [guardHoldNext_toNat, hdelta, h.gHold, if_pos rfl]
    change min (_ + _) (2 ^ 32 - 1) = _
    omega
  refine ⟨(tickedAt_cfgImg keyN rtsN t s).trans h.cfgImg, h.order.trans hle, rfl, ?hold, ?flag⟩
  case hold =>
    rw [State.tickedAt, State.withPorts_gHold, tickResult_gHold, hheld, hhold]
  case flag =>
    rw [State.tickedAt, State.withPorts_gFlag, tickResult_gFlag_of_held hheld]
    by_cases htmo : img.tmo = 0
    · rw [guardFlagNext_of_tmo_zero (h.cfgImg ▸ htmo)]
      simp [htmo]
    · rw [guardFlagNext_held_iff _ (h.cfgImg ▸ htmo), hhold, h.cfgImg, h.gFlag, tmo_lt_saturated_iff]
      refine ⟨fun hset => ⟨htmo, ?_⟩, fun ⟨_, hset⟩ => .inr hset⟩
      omega

theorem HeldSince.after_run {img : Image} {since now : Nat} {times : List Nat} {s : State} {keyN rtsN : Bool}
    (h : HeldSince img since now s) (hheld : s.combined keyN rtsN = true) (htimes : timesAdvance (now :: times)) :
    ∃ t, drive (times.map (tickAt keyN rtsN)) s = .next t ∧
      HeldSince img since ((now :: times).getLast (List.cons_ne_nil _ _)) t := by
  induction times generalizing now s with
  | nil => exact ⟨s, rfl, h⟩
  | cons t times ih =>
    obtain ⟨hle, hgap, hrest⟩ := htimes
    rw [List.map_cons, drive_tickAt_cons, List.getLast_cons (List.cons_ne_nil _ _)]
    exact ih (h.after_tick hheld hle hgap) (tickedAt_held hheld t) hrest

/-- Settles O53: a released tick starts the count, and each held tick adds the gap since the last. -/
theorem holdDurationIsTheTrueHeldTime : Obligations.HoldDurationIsTheTrueHeldTime := by
  intro keyN rtsN times tf s hlast hhold hflag hheld htimes
  have hstart : HeldSince s.cfgImg tf tf s := ⟨rfl, le_rfl, hlast, by simp [hhold], by simp [hflag]⟩
  obtain ⟨t, ht, hend⟩ := hstart.after_run hheld htimes
  exact ⟨t, ht, hend.gHold, hend.gFlag⟩

/-! #### A served dwell (41_step_timer.md R152, R153) -/

/-- From the true time `t` to the true time `t'` the dwell `d` has been served, without a wrap of the clock. -/
def DwellServed (d : Byte) (t t' : Nat) : Prop := t ≤ t' ∧ t' - t < 2 ^ 32 ∧ d.toNat ≤ t' - t

theorem expired_of_dwellServed {s : State} {t t' : Nat} (hstart : s.tmrStart = BitVec.ofNat 32 t)
    (h : DwellServed s.tmrDelay t t') : s.expired (BitVec.ofNat 32 t') = true := by
  obtain ⟨hle, hgap, hserved⟩ := h
  obtain ⟨-, -, hexp⟩ := elapsedIsTrueBelowTheWrap s t t' hle hstart
  exact (hexp hgap).mpr hserved

/-! #### Down the chain: from Tx to Rx with the flag set (P4) -/

/-- S_nR, `n = i + 1`, entered at the true time `t` with the flag set: the relays above step `i` are back at idle. -/
structure Releasing (img : Image) (i : Fin 4) (t : Nat) (s : State) : Prop where
  seq : s.seq = .rxStep i
  gFlag : s.gFlag = true
  cts : s.cts = false
  cfgImg : s.cfgImg = img
  tmrStart : s.tmrStart = BitVec.ofNat 32 t
  tmrDelay : s.tmrDelay = img.rxd i
  relay : ∀ j : Fin 4, i < j → s.relay.getLsbD j.val = img.pol j

/-- The relay just released is at idle with those above it. -/
theorem Releasing.relay_release {img : Image} {i : Fin 4} {t : Nat} {s : State} (h : Releasing img i t s) (now : Millis)
    {j : Fin 4} (hj : i ≤ j) : (s.release i now).relay.getLsbD j.val = img.pol j := by
  rw [release_relay, setRelayBit_getLsbD, h.cfgImg]
  split
  case isTrue hji => rw [hji]
  case isFalse hji => exact h.relay j (lt_of_le_of_ne hj (Ne.symm hji))

section
variable {s : State} {keyN rtsN : Bool} (hheld : s.combined keyN rtsN = true)
include hheld

theorem tickedAt_obsKey_of_held (t : Nat) :
    (s.tickedAt keyN rtsN t).obsKey = !(s.tickedAt keyN rtsN t).gFlag :=
  tickResult_obsKey_of_held hheld _

theorem releasing_of_tx {t : Nat} (hs : s.seq = .tx)
    (hflag : s.guardFlagNext true (BitVec.ofNat Config.clkW t) = true) :
    Releasing s.cfgImg 3 t (s.tickedAt keyN rtsN t) := by
  have hflag' : (s.tickedAt keyN rtsN t).gFlag = true := (tickResult_gFlag_of_held hheld _).trans hflag
  have hkey : (s.tickedAt keyN rtsN t).obsKey = false := by rw [tickedAt_obsKey_of_held hheld, hflag']; rfl
  rw [tickedAt_eq hkey, sequence_tx_released _ hs]
  exact ⟨rfl, hflag', rfl, rfl, rfl, rfl, fun j hj => absurd j.isLt (by omega)⟩

/-- With the dwell served, the flag that cut the key stays, and the step's relay is released. -/
theorem Releasing.served_tick {img : Image} {i : Fin 4} {t t' : Nat} (h : Releasing img i t s) (htmo : img.tmo ≠ 0)
    (hserved : DwellServed (img.rxd i) t t') :
    (s.tickedAt keyN rtsN t').gFlag = true ∧ (s.tickedAt keyN rtsN t').obsKey = false ∧
      s.sequence false (BitVec.ofNat 32 t') = s.release i (BitVec.ofNat 32 t') := by
  have hflag : (s.tickedAt keyN rtsN t').gFlag = true :=
    tickResult_gFlag_of_sticky hheld _ (h.cfgImg ▸ htmo) h.gFlag
  have hexp : s.expired (BitVec.ofNat 32 t') = true :=
    expired_of_dwellServed h.tmrStart (h.tmrDelay ▸ hserved)
  refine ⟨hflag, ?_, ?_⟩
  · rw [tickedAt_obsKey_of_held hheld, hflag]
    rfl
  · rw [sequence_rxStep_released _ h.seq, if_pos hexp]

theorem Releasing.next {img : Image} {i j : Fin 4} {t t' : Nat} (h : Releasing img i t s) (htmo : img.tmo ≠ 0)
    (hj : i.val = j.val + 1) (hserved : DwellServed (img.rxd i) t t') :
    Releasing img j t' (s.tickedAt keyN rtsN t') := by
  obtain ⟨hflag, hkey, hseq⟩ := h.served_tick hheld htmo hserved
  have hrelay (m : Fin 4) (hm : j < m) : (s.release i (BitVec.ofNat 32 t')).relay.getLsbD m.val = img.pol m :=
    h.relay_release _ (show i.val ≤ m.val by omega)
  rw [release_of_succ s _ hj] at hseq hrelay
  rw [tickedAt_eq hkey, hseq]
  exact ⟨rfl, hflag, h.cts, h.cfgImg, rfl, congrArg (Image.rxd · j) h.cfgImg, hrelay⟩

theorem Releasing.home {img : Image} {t t' : Nat} (h : Releasing img 0 t s) (htmo : img.tmo ≠ 0)
    (hserved : DwellServed (img.rxd 0) t t') :
    (s.tickedAt keyN rtsN t').seq = .rx ∧ (s.tickedAt keyN rtsN t').gFlag = true ∧
      (s.tickedAt keyN rtsN t').cts = false ∧
      ∀ i : Fin 4, (s.tickedAt keyN rtsN t').relay.getLsbD i.val = img.pol i := by
  obtain ⟨hflag, hkey, hseq⟩ := h.served_tick hheld htmo hserved
  have hrelay (m : Fin 4) := h.relay_release (BitVec.ofNat 32 t') (Fin.zero_le m)
  rw [release_first] at hseq hrelay
  rw [tickedAt_eq hkey, hseq]
  exact ⟨rfl, hflag, h.cts, hrelay⟩

end

/-- Settles O54: the first tick leaves Tx, each later one serves a dwell, and the flag stands throughout. -/
theorem forcedReleaseWalksTheChainToRx : Obligations.ForcedReleaseWalksTheChainToRx := by
  intro keyN rtsN t0 t1 t2 t3 t4 s hs hheld hflag htimes hd3 hd2 hd1 hd0
  obtain ⟨hle1, hgap1, hle2, hgap2, hle3, hgap3, hle4, hgap4, -⟩ := htimes
  obtain ⟨htmo, -, -⟩ := (guardFlagNext_iff s true _).mp hflag
  have hheld0 := tickedAt_held hheld t0
  have hheld1 := tickedAt_held hheld0 t1
  have hheld2 := tickedAt_held hheld1 t2
  have hheld3 := tickedAt_held hheld2 t3
  have h0 := releasing_of_tx hheld hs hflag
  have h1 := h0.next (j := 2) hheld0 htmo rfl ⟨hle1, hgap1, hd3⟩
  have h2 := h1.next (j := 1) hheld1 htmo rfl ⟨hle2, hgap2, hd2⟩
  have h3 := h2.next (j := 0) hheld2 htmo rfl ⟨hle3, hgap3, hd1⟩
  obtain ⟨hrx, hflag4, hcts4, hrelay4⟩ := h3.home hheld3 htmo ⟨hle4, hgap4, hd0⟩
  exact ⟨_, _, _, _, _, drive_tickAt _ _ _ _, h0.seq, h0.gFlag, h0.cts, drive_tickAt _ _ _ _, h1.seq,
    drive_tickAt _ _ _ _, h2.seq, drive_tickAt _ _ _ _, h3.seq, drive_tickAt _ _ _ _, hrx, hflag4, hcts4, hrelay4⟩

/-! #### Up the chain: from Rx to Tx with the flag clear (P2) -/

/-- S_nT, `n = i + 1`, entered at the true time `t`: the relays up to step `i` are transmit-active. -/
structure Keying (img : Image) (i : Fin 4) (t : Nat) (s : State) : Prop where
  seq : s.seq = .txStep i
  cts : s.cts = false
  cfgImg : s.cfgImg = img
  tmrStart : s.tmrStart = BitVec.ofNat 32 t
  tmrDelay : s.tmrDelay = img.txd i
  relay : ∀ j : Fin 4, j ≤ i → s.relay.getLsbD j.val = !img.pol j

theorem Keying.sequence_served {img : Image} {i : Fin 4} {t t' : Nat} {s : State} (h : Keying img i t s)
    (hserved : DwellServed (img.txd i) t t') :
    s.sequence true (BitVec.ofNat 32 t') = s.advance i (BitVec.ofNat 32 t') := by
  have hexp : s.expired (BitVec.ofNat 32 t') = true :=
    expired_of_dwellServed h.tmrStart (h.tmrDelay ▸ hserved)
  rw [sequence_txStep_keyed _ h.seq, if_pos hexp]

/-- A relay driven active joins those below it. -/
theorem enterT_relays_active {s : State} {i : Fin 4}
    (hbelow : ∀ m : Fin 4, m < i → s.relay.getLsbD m.val = !s.cfgImg.pol m) (now : Millis) {j : Fin 4} (hj : j ≤ i) :
    (s.enterT i now).relay.getLsbD j.val = !s.cfgImg.pol j := by
  rw [State.enterT_relay, setRelayBit_getLsbD]
  split
  case isTrue hji => rw [hji]
  case isFalse hji => exact hbelow j (lt_of_le_of_ne hj hji)

section
variable {s : State} {keyN rtsN : Bool} (hheld : s.combined keyN rtsN = true)
include hheld

/-- A set flag of one held tick is still set after the next (43_timeout_guard.md R197). -/
theorem tickedAt_gFlag_clear_of_next {t t' : Nat}
    (h : ((s.tickedAt keyN rtsN t).tickedAt keyN rtsN t').gFlag = false) : (s.tickedAt keyN rtsN t).gFlag = false := by
  by_contra hset
  rw [Bool.not_eq_false] at hset
  have hnext : s.guardFlagNext true (BitVec.ofNat Config.clkW t) = true :=
    (tickResult_gFlag_of_held hheld _).symm.trans hset
  obtain ⟨htmo, -, -⟩ := (guardFlagNext_iff s true _).mp hnext
  have hstays : ((s.tickedAt keyN rtsN t).tickedAt keyN rtsN t').gFlag = true :=
    tickResult_gFlag_of_sticky (tickedAt_held hheld t) _
      ((tickedAt_cfgImg keyN rtsN t s).symm ▸ htmo) hset
  exact Bool.noConfusion (h.symm.trans hstays)

theorem tickedAt_obsKey_of_clear {t : Nat} (hclear : (s.tickedAt keyN rtsN t).gFlag = false) :
    (s.tickedAt keyN rtsN t).obsKey = true := by
  rw [tickedAt_obsKey_of_held hheld, hclear]
  rfl

theorem keying_of_rx {t : Nat} (hs : s.seq = .rx) (hcts : s.cts = false)
    (hclear : (s.tickedAt keyN rtsN t).gFlag = false) : Keying s.cfgImg 0 t (s.tickedAt keyN rtsN t) := by
  have hrelay (j : Fin 4) (hj : j ≤ 0) :=
    enterT_relays_active (s := s) (fun m hm => absurd hm (Fin.not_lt_zero m)) (BitVec.ofNat Config.clkW t) hj
  rw [tickedAt_eq (tickedAt_obsKey_of_clear hheld hclear), sequence_rx_keyed _ hs]
  exact ⟨rfl, hcts, rfl, rfl, rfl, hrelay⟩

theorem Keying.next {img : Image} {i j : Fin 4} {t t' : Nat} (h : Keying img i t s) (hj : j.val = i.val + 1)
    (hserved : DwellServed (img.txd i) t t') (hclear : (s.tickedAt keyN rtsN t').gFlag = false) :
    Keying img j t' (s.tickedAt keyN rtsN t') := by
  obtain rfl := h.cfgImg
  have hrelay (m : Fin 4) (hm : m ≤ j) :=
    enterT_relays_active (s := s) (fun n (hn : n < j) => h.relay n (show n.val ≤ i.val by omega))
      (BitVec.ofNat Config.clkW t') hm
  rw [tickedAt_eq (tickedAt_obsKey_of_clear hheld hclear), h.sequence_served hserved, advance_of_succ s _ hj]
  exact ⟨rfl, h.cts, rfl, rfl, rfl, hrelay⟩

theorem Keying.transmit {img : Image} {t t' : Nat} (h : Keying img 3 t s)
    (hserved : DwellServed (img.txd 3) t t') (hclear : (s.tickedAt keyN rtsN t').gFlag = false) :
    (s.tickedAt keyN rtsN t').seq = .tx ∧ (s.tickedAt keyN rtsN t').cts = img.ctsEn ∧
      ∀ i : Fin 4, (s.tickedAt keyN rtsN t').relay.getLsbD i.val = !img.pol i := by
  have hcts : s.enterTx.cts = img.ctsEn := by rw [enterTx_cts_eq_or, h.cts, h.cfgImg, Bool.or_false]
  rw [tickedAt_eq (tickedAt_obsKey_of_clear hheld hclear), h.sequence_served hserved, advance_last]
  exact ⟨rfl, hcts, fun i => h.relay i (Fin.le_last i)⟩

end

/-- Settles O55: a flag clear at the end was clear at every tick, so each tick has the key and advances. -/
theorem heldKeyDrivesTheChainToTx : Obligations.HeldKeyDrivesTheChainToTx := by
  intro keyN rtsN t0 t1 t2 t3 t4 s hs hcts hheld htimes hd0 hd1 hd2 hd3
  obtain ⟨hle1, hgap1, hle2, hgap2, hle3, hgap3, hle4, hgap4, -⟩ := htimes
  simp only [List.map_cons, List.map_nil, drive_tickAt_cons]
  refine ⟨_, rfl, fun hclear4 => ?_⟩
  have hheld0 := tickedAt_held hheld t0
  have hheld1 := tickedAt_held hheld0 t1
  have hheld2 := tickedAt_held hheld1 t2
  have hheld3 := tickedAt_held hheld2 t3
  have hclear3 := tickedAt_gFlag_clear_of_next hheld2 hclear4
  have hclear2 := tickedAt_gFlag_clear_of_next hheld1 hclear3
  have hclear1 := tickedAt_gFlag_clear_of_next hheld0 hclear2
  have hclear0 := tickedAt_gFlag_clear_of_next hheld hclear1
  have h0 := keying_of_rx hheld hs hcts hclear0
  have h1 := h0.next (j := 1) hheld0 rfl ⟨hle1, hgap1, hd0⟩ hclear1
  have h2 := h1.next (j := 2) hheld1 rfl ⟨hle2, hgap2, hd1⟩ hclear2
  have h3 := h2.next (j := 3) hheld2 rfl ⟨hle3, hgap3, hd2⟩ hclear3
  exact h3.transmit hheld3 ⟨hle4, hgap4, hd3⟩ hclear4

end Sys2Proof.Machine
end
